-- ==== Sys2Proof/Word.lean ====
section
/-! DEFINITION. The 24-bit word and sample, and the fixed-length register file `Regs` in which every
"fixed number of like things" of the LH-2448 is held. -/

namespace Sys2Proof

/-- A word is 24 bits: command words, reply words, control cell payloads and table words
(00_scope.md, "Words, addresses and tables"). -/
abbrev Word := BitVec 24

/-- A sample is a 24-bit two's complement integer (00_scope.md, "Numbers"). -/
abbrev Sample := BitVec 24

/-- An accumulator of the Tap Engine is a 50-bit signed register (R22). -/
abbrev Accumulator := BitVec 50

/-- A file of exactly `n` registers, held as a list so that the kernel can evaluate it. -/
structure Regs (α : Type) (n : Nat) where
  /-- The registers in ascending number. -/
  cells : List α
  /-- There are exactly `n` of them. -/
  size : cells.length = n
  deriving DecidableEq, Repr

/-- The content of register `i`. -/
def Regs.get {α : Type} {n : Nat} (r : Regs α n) (i : Fin n) : α :=
  r.cells.get (i.cast r.size.symm)

/-- The file with register `i` holding `x` and every other register as before. -/
def Regs.put {α : Type} {n : Nat} (r : Regs α n) (i : Fin n) (x : α) : Regs α n :=
  ⟨r.cells.set i.val x, by rw [List.length_set, r.size]⟩

/-- The file whose every register holds `x`. -/
def Regs.fill {α : Type} (n : Nat) (x : α) : Regs α n :=
  ⟨List.replicate n x, by rw [List.length_replicate]⟩

/-- The file whose register `i` holds `f i`. -/
def Regs.tab {α : Type} {n : Nat} (f : Fin n → α) : Regs α n :=
  ⟨(List.finRange n).map f, by rw [List.length_map, List.length_finRange]⟩

/-- Every register replaced by its image. -/
def Regs.map {α β : Type} {n : Nat} (f : α → β) (r : Regs α n) : Regs β n :=
  ⟨r.cells.map f, by rw [List.length_map, r.size]⟩

/-- Two files of the same length combined register by register. -/
def Regs.zip {α β γ : Type} {n : Nat} (f : α → β → γ) (a : Regs α n) (b : Regs β n) : Regs γ n :=
  ⟨List.zipWith f a.cells b.cells, by rw [List.length_zipWith, a.size, b.size, Nat.min_self]⟩

/-- Register `i` replaced by its image, the others as before. -/
def Regs.edit {α : Type} {n : Nat} (r : Regs α n) (i : Fin n) (f : α → α) : Regs α n :=
  r.put i (f (r.get i))

end Sys2Proof
end

