-- ==== Sys2Proof/Syntax.lean ====
section
/-! DEFINITION. The commands the block takes: one constructor of `Instr` for each row of
spec/opcode_table.json, with the row's operands, and the ring frame that one of them carries. -/

namespace Sys2Proof

/-- The fixed sync pattern at the start of a frame (R206). -/
def syncPattern : BitVec 16 := 0xD3A8#16

/-- A ring frame as R131 and R206 lay it out. `cut` is `none` for a frame received to the end of its check; `some n` is a frame that an early
sync ended after `n` bits of the 3126 that follow the sync (R132). The fields that lie beyond the cut were
never on the ring, and what they hold here means nothing. -/
structure Frame where
  /-- Sync, 16 bits, outside the checked contents. The receiver recognises it by its line coding (R206). -/
  sync : BitVec 16
  /-- Frame number, 8 bits. -/
  number : BitVec 8
  /-- Mark flag. -/
  mark : Bool
  /-- Origin flag. -/
  origin : Bool
  /-- Slots 0..127, one sample each. -/
  slots : Regs Sample 128
  /-- Kind code of the control cell, 4 bits. -/
  kind : BitVec 4
  /-- Payload of the control cell. -/
  payload : Word
  /-- The frame check field, 16 bits. -/
  check : BitVec 16
  /-- Where an early sync cut the frame, if one did. -/
  cut : Option Nat
  deriving DecidableEq, Repr

/-- To whom a message is sent: this part's node address, or the broadcast address 63 (R156). -/
inductive Addressee
  /-- The SELECT carries this part's node address. -/
  | addressed
  /-- The SELECT carries address 63. -/
  | broadcast
  deriving DecidableEq, Repr

/-- The commands and events of spec/opcode_table.json, one constructor a row.

A command row of the hall controller (STATUS to RESTART) is the delivery of that command's whole message:
its SELECT, its header WORD with the argument count, its argument WORDs and its END, each in a good frame.
A timer row is the expiry of that timer at the time State holds for it. -/
inductive Instr
  /-- POWER_ON_RESET (R175): the six straps as sampled, and the reference clock tick of the reset. -/
  | powerOnReset (straps : BitVec 6) (time : Nat)
  /-- FRAME_ARRIVAL (R131): the tick of the arrival and the frame as received. -/
  | frameArrival (time : Nat) (frame : Frame)
  /-- WATCH_EXPIRY (R137). -/
  | watchExpiry
  /-- LOCAL_FRAME_TIMER_EXPIRY (R138). -/
  | localFrameTimerExpiry
  /-- REFRESH_TIMER_EXPIRY (R66). -/
  | refreshTimerExpiry
  /-- WINDOW_END (R24). -/
  | windowEnd
  /-- STATUS (R170). -/
  | status (via : Addressee) (args : List Word)
  /-- READ (R182). -/
  | read (via : Addressee) (args : List Word)
  /-- WRITE (R183). -/
  | write (via : Addressee) (args : List Word)
  /-- LOAD-OPEN (R186). -/
  | loadOpen (via : Addressee) (args : List Word)
  /-- LOAD-DATA (R187). -/
  | loadData (via : Addressee) (args : List Word)
  /-- LOAD-CLOSE (R190). -/
  | loadClose (via : Addressee) (args : List Word)
  /-- COMMIT (R78). -/
  | commit (via : Addressee) (args : List Word)
  /-- CANCEL (R81). -/
  | cancel (via : Addressee) (args : List Word)
  /-- HUSH (R83). -/
  | hush (via : Addressee) (args : List Word)
  /-- RESUME (R84). -/
  | resume (via : Addressee) (args : List Word)
  /-- GUARD-CLEAR (R110). -/
  | guardClear (via : Addressee) (args : List Word)
  /-- SURVEY-START (R194). -/
  | surveyStart (via : Addressee) (args : List Word)
  /-- SURVEY-STOP (R196). -/
  | surveyStop (via : Addressee) (args : List Word)
  /-- FAULT-CLEAR (R173). -/
  | faultClear (via : Addressee) (args : List Word)
  /-- RESTART (R174). -/
  | restart (via : Addressee) (args : List Word)
  /-- LOAD_TIMEOUT (R191). -/
  | loadTimeout
  /-- FORGIVENESS_EXPIRY (R101) of one detector. -/
  | forgivenessExpiry (detector : Fin 24)
  /-- RECOVERY_EXPIRY (R108) of one guard group. -/
  | recoveryExpiry (group : Fin 8)
  /-- TRIP (R99) of one detector. -/
  | trip (detector : Fin 24)
  /-- FADE_TARGET_ACTION (R73). -/
  | fadeTargetAction
  /-- FADE_IN_COMPLETE (R72). -/
  | fadeInComplete
  /-- LEVEL_FINISH (R200). -/
  | levelFinish
  /-- DECAY_FINISH (R203). -/
  | decayFinish
  deriving DecidableEq, Repr

end Sys2Proof
end

