-- ==== Sys2Proof/Decode.lean ====
section
/-! DEFINITION. The command a word of the opcode table spells. No row of this block's table gives bits, so
no word spells a command; the layouts the hall controller sees are read in Machine/Operands.lean. -/

namespace Sys2Proof

/-- The command a table word spells: none, as no row of spec/opcode_table.json has bits. -/
def decodeTableWord (_nbits _w : Nat) : Option Instr := none

end Sys2Proof
end

