-- ==== Sys2Proof/Machine/State.lean ====
section
/-! DEFINITION. The state of the LH-2448: one structure for each block of 00_scope.md's block table, the
delay memory, the queue of waiting commands, and the machine right after power-on reset. -/

namespace Sys2Proof.Machine

/-! ### Ring Receiver and Ring Transmitter (07_frames_on_the_ring.md) -/

/-- The four lock states (section 7.4). -/
inductive LockState
  | searching | acquiring | locked | flywheel
  deriving DecidableEq, Repr

/-- A RINGSET record (R134). -/
structure RingRecord where
  /-- Bad-frame tolerance, 1..15. -/
  tolerance : Nat
  /-- Acquire count, 4..255. -/
  acquire : Nat
  deriving DecidableEq, Repr

/-- The Ring Receiver. Times are reference clock ticks. -/
structure Rrx where
  /-- Lock state. -/
  lock : LockState
  /-- Good count, 0..255 (R140). -/
  goodCount : Nat
  /-- Bad count, 0..15 (R142). -/
  badCount : Nat
  /-- Previous frame number (R143). -/
  prevNumber : BitVec 8
  /-- Period estimate P, 461..563 ticks (R135). -/
  period : Nat
  /-- First interval pending (R135). -/
  firstPending : Bool
  /-- Time of the previous window start (R136). -/
  lastStart : Nat
  /-- Watch timer: its expiry, or stopped (R137). -/
  watch : Option Nat
  /-- Local frame timer: its expiry, or stopped (R138). -/
  localTimer : Option Nat
  /-- Held input frame (R144). -/
  heldFrame : Regs Sample 128
  /-- RINGSET record in force (R134). -/
  ringset : RingRecord
  /-- Bad-frame counter (R153). -/
  badFrames : Nat
  /-- Missing-frame counter (R153). -/
  missingFrames : Nat
  /-- Slip counter (R153). -/
  slips : Nat
  /-- Lock-loss counter (R153). -/
  lockLosses : Nat
  deriving DecidableEq, Repr

/-- Mode of the Ring Transmitter (R147). -/
inductive TxMode
  | follow | originate
  deriving DecidableEq, Repr

/-- The Ring Transmitter. -/
structure Rtx where
  /-- Mode of the last frame sent (R147). -/
  mode : TxMode
  /-- Outgoing frame number (R147). -/
  number : BitVec 8
  /-- The ring output: the frame last sent (R147), none before the first window start. -/
  sent : Option Frame
  deriving DecidableEq, Repr

/-! ### Command Unit (08_commands_and_replies.md) -/

/-- Unit state (R156 to R160). -/
inductive UnitState
  | idle | assembling | replying
  deriving DecidableEq, Repr

/-- A reply cell: its kind code and its payload (R165, R206). -/
structure Cell where
  /-- Kind code. -/
  kind : BitVec 4
  /-- Payload. -/
  payload : Word
  deriving DecidableEq, Repr

/-- The kinds of fault raised to the fault record (R172). -/
inductive FaultKind
  | refreshOverrun | lockLost | guardCut | busClip | loadTimeout
  deriving DecidableEq, Repr

/-- What the fault record captures (R172). -/
structure FaultNote where
  /-- Kind. -/
  kind : FaultKind
  /-- Frame number at capture. -/
  number : BitVec 8
  /-- Detail, 0..15. -/
  detail : Nat
  deriving DecidableEq, Repr

/-- The Command Unit. -/
structure Cmu where
  /-- Unit state. -/
  unit : UnitState
  /-- The assembly in progress, and to whom its message is sent. -/
  assembly : Option Addressee
  /-- Words of the message record, in arrival order, at most 63 (R157). -/
  words : List Word
  /-- Overflow flag of the message record (R157). -/
  overflow : Bool
  /-- Damaged flag of the message record (R158). -/
  damaged : Bool
  /-- Reply buffer, in sending order (R165). -/
  replyBuffer : List Cell
  /-- The buffer's head is the reply header, not yet sent (R168). -/
  headerHeld : Bool
  /-- Overrun flag (R168). -/
  overrun : Bool
  /-- Shed note (R64, R167). -/
  shedNote : Bool
  /-- RESTART pending (R174). -/
  restartPending : Bool
  /-- Overrun counter (R169). -/
  overruns : Nat
  /-- Truncated counter (R169). -/
  truncated : Nat
  /-- Damaged counter (R169). -/
  damagedCount : Nat
  /-- The fault held by the fault record, if any (R172). -/
  fault : Option FaultNote
  /-- Later-count of the fault record, 0..255 (R172). -/
  laterCount : Nat
  /-- Node address 0..62, or none when the straps read 63 (R156). -/
  nodeAddress : Option (Fin 63)
  deriving DecidableEq, Repr

/-! ### Table Store (09_scene_banks_and_the_table_loader.md, 11_word_formats.md R209) -/

/-- A stored entry of two words. -/
structure Pair where
  /-- Word 0. -/
  w0 : Word
  /-- Word 1. -/
  w1 : Word
  deriving DecidableEq, Repr

/-- A stored entry of three words. -/
structure Triple where
  /-- Word 0. -/
  w0 : Word
  /-- Word 1. -/
  w1 : Word
  /-- Word 2. -/
  w2 : Word
  deriving DecidableEq, Repr

/-- The words of the tables of one scene bank (R176). -/
structure SceneBank where
  /-- HEADER. -/
  header : Triple
  /-- TAPS. -/
  taps : Regs Triple 1024
  /-- MODS. -/
  mods : Regs Triple 32
  deriving DecidableEq, Repr

/-- The stored words of every table (R176, R181). -/
structure Tables where
  /-- Bank A. -/
  bankA : SceneBank
  /-- Bank B. -/
  bankB : SceneBank
  /-- INPUTS. -/
  inputs : Regs Word 24
  /-- OUTPUTS. -/
  outputs : Regs Word 48
  /-- LINES. -/
  lines : Regs Word 40
  /-- DETECTORS. -/
  detectors : Regs Pair 24
  /-- GROUPS. -/
  groups : Regs Word 8
  /-- TIMING. -/
  timing : Pair
  /-- RINGSET. -/
  ringset : Word
  /-- RESULTS. -/
  results : Regs Triple 16
  deriving DecidableEq, Repr

/-! ### Table Loader (section 9.4) -/

/-- The two scene banks (R179). -/
inductive BankName
  | a | b
  deriving DecidableEq, Repr

/-- The tables of a scene bank, ids 0..2 (R181). -/
inductive BankTable
  | header | taps | mods
  deriving DecidableEq, Repr

/-- Direction of a load (R186). -/
inductive Direction
  | ascending | descending | fill
  deriving DecidableEq, Repr

/-- The Table Loader. -/
structure Tld where
  /-- The loader is OPEN. -/
  isOpen : Bool
  /-- Bank being loaded, meaningful when OPEN. -/
  bank : BankName
  /-- Target table, meaningful when OPEN. -/
  table : BankTable
  /-- Next index. -/
  next : Nat
  /-- Remaining count R. -/
  remaining : Nat
  /-- Direction. -/
  direction : Direction
  /-- Partial entry, 0..2 words. -/
  partialWords : List Word
  /-- Timeout setting, in units of 1024 windows. -/
  timeout : Nat
  /-- Idle timer: window starts since its last restart, or stopped. -/
  idle : Option Nat
  deriving DecidableEq, Repr

/-! ### Delay lines and delay memory (02_delay_lines.md, 03_the_memory_window.md) -/

/-- One delay line: the geometry in force (R34), the write position and the fill count (R36). -/
structure Line where
  /-- Base row in force. -/
  base : Nat
  /-- Row count in force, 0 when disabled. -/
  rows : Nat
  /-- Write position wp. -/
  wp : Nat
  /-- Fill count fl. -/
  fill : Nat
  deriving DecidableEq, Repr

/-- How the delay memory has gone without refresh (R55, R68): the model's own record, of which the retention of a
word and the free values are computed. -/
structure Lapse where
  /-- Windows begun without refresh, and power-on resets, so far. -/
  windows : Nat
  /-- That count at each refresh served since the power-on reset, newest first, each value once. -/
  served : List Nat
  deriving DecidableEq, Repr

/-- One written word of the delay memory. -/
structure DelayCell where
  /-- Word address, row × 1024 + word in row (R39). -/
  address : Nat
  /-- The sample written. -/
  sample : Sample
  /-- The windows begun without refresh up to the write (R68). -/
  age : Nat
  deriving DecidableEq, Repr

/-- The delay memory: the words written since power-on, in strictly rising addresses. A word that is not
listed holds no known value. -/
abbrev Memory := List DelayCell

/-- The canonical form of the delay memory: addresses strictly rising. -/
def Memory.wf : Memory → Bool
  | [] => true
  | [_] => true
  | c :: d :: m => c.address < d.address && Memory.wf (d :: m)

/-- A TIMING record (R48). -/
structure Timing where
  /-- Frame budget FB, in units. -/
  budget : Nat
  /-- Row wait n. -/
  rowWait : Nat
  /-- Turnaround TA. -/
  turnaround : Nat
  /-- Row gap CG. -/
  rowGap : Nat
  /-- Row gap enable. -/
  rowGapOn : Bool
  /-- Slow mode. -/
  slow : Bool
  /-- Refresh enable. -/
  refreshOn : Bool
  /-- Refresh base LONG (98 units) rather than SHORT (25 units). -/
  longBase : Bool
  /-- Refresh factor. -/
  factor : Nat
  deriving DecidableEq, Repr

/-- Direction of a delay memory access (R51). -/
inductive Access
  | read | write
  deriving DecidableEq, Repr

/-- The Delay Memory Controller. -/
structure Dmc where
  /-- Timing in force (R50). -/
  timing : Timing
  /-- Open row (R51). -/
  openRow : Option Nat
  /-- Previous direction (R51). -/
  direction : Option Access
  /-- Window spend, in units (R56). -/
  spend : Nat
  /-- Pending refresh count, 0..7 (R66). -/
  pendingRefresh : Nat
  /-- Refresh timer: its expiry in units of R47, or stopped (R66). -/
  refreshDue : Option Nat
  /-- Refresh overrun count (R67). -/
  refreshOverruns : Nat
  /-- Taps shed in the last window (R64). -/
  shedLast : Nat
  /-- Worst taps shed since clear (R64). -/
  shedWorst : Nat
  /-- Windows with any shed (R64). -/
  shedWindows : Nat
  deriving DecidableEq, Repr

/-! ### Tap Engine (01_tap_processing_and_modulation.md) -/

/-- The Tap Engine. -/
structure Tpe where
  /-- Held value of each tap table index (R17). -/
  held : Regs Sample 1024
  /-- Output accumulators OUT0..OUT47 (R22). -/
  outs : Regs Accumulator 48
  /-- Bus accumulators BUS0..BUS15 (R22). -/
  buses : Regs Accumulator 16
  /-- Generator phases (R8). -/
  phases : Regs (BitVec 20) 32
  /-- Bus clip count (R26). -/
  busClips : Nat
  deriving DecidableEq, Repr

/-! ### Input and Output Stages (06_input_and_output_stages.md) -/

/-- An input entry in force (R115). -/
structure InputEntry where
  /-- Slot 0..127, or NONE. -/
  slot : Option (Fin 128)
  /-- Trim target index. -/
  trim : Nat
  /-- Invert. -/
  invert : Bool
  deriving DecidableEq, Repr

/-- An output entry in force (R116). -/
structure OutputEntry where
  /-- Slot 0..127, or NONE. -/
  slot : Option (Fin 128)
  /-- Trim target index. -/
  trim : Nat
  deriving DecidableEq, Repr

/-- A finished output sample with the slot recorded for it (R126). -/
structure Placed where
  /-- The slot in force when the sample was computed, or NONE. -/
  slot : Option (Fin 128)
  /-- The sample. -/
  sample : Sample
  deriving DecidableEq, Repr

/-- One entry of the output queue (R126). -/
abbrev QueueEntry := Regs Placed 48

/-- A blank entry: every slot NONE (R126). -/
def QueueEntry.blank : QueueEntry := Regs.fill 48 ⟨none, 0#24⟩

/-- The Input/Output Stages. -/
structure Ios where
  /-- Input entries in force. -/
  inputs : Regs InputEntry 24
  /-- Input applied indices. -/
  inApplied : Regs Nat 24
  /-- Output entries in force. -/
  outputs : Regs OutputEntry 48
  /-- Output applied indices. -/
  outApplied : Regs Nat 48
  /-- Output queue, head first. -/
  queue : List QueueEntry
  /-- Output clip count (R124). -/
  outClips : Nat
  /-- The conditioned samples of the latest window (R121). -/
  conditioned : Regs Sample 24
  deriving DecidableEq, Repr

/-! ### Scene Controller (04_scene_transitions.md) -/

/-- The five scene states (R70). -/
inductive SceneState
  | steady | armed | fadeOut | held | fadeIn
  deriving DecidableEq, Repr

/-- The fade targets (R73). -/
inductive FadeTarget
  | swapFadeIn | swapHold | hold
  deriving DecidableEq, Repr

/-- The Scene Controller. -/
structure Scc where
  /-- Scene state. -/
  scene : SceneState
  /-- Ramp position ρ. -/
  ramp : Nat
  /-- Fade target. -/
  target : Option FadeTarget
  /-- Active bank. -/
  active : BankName
  /-- Shadow lock. -/
  shadowLocked : Bool
  /-- Swap due. -/
  swapDue : Bool
  /-- Swap count, wrapping at 65536. -/
  swaps : Nat
  /-- Window state (R72). -/
  windowState : SceneState
  deriving DecidableEq, Repr

/-! ### Stability Guard (05_the_stability_guard.md) -/

/-- Action codes of a detector (R91). Code 3 is none of them; only a disabled entry may hold it (R93). -/
inductive Action
  | note | reduce | cut | unassigned
  deriving DecidableEq, Repr

/-- A detector entry in force (R91). -/
structure DetectorEntry where
  /-- Enable. -/
  enable : Bool
  /-- Guard group. -/
  group : Fin 8
  /-- Action. -/
  action : Action
  /-- Threshold, in quarter-dB. -/
  threshold : Nat
  /-- Trim, in quarter-dB. -/
  trim : Int
  /-- Debounce code. -/
  debounce : Fin 4
  /-- Trip limit code. -/
  limit : Fin 8
  /-- Forgiveness. -/
  forgiveness : Nat
  deriving DecidableEq, Repr

/-- One detector. -/
structure Detector where
  /-- Entry in force. -/
  entry : DetectorEntry
  /-- Fast envelope S. -/
  fast : Nat
  /-- Slow envelope L. -/
  slow : Nat
  /-- Debounce count. -/
  debounce : Nat
  /-- Trip count. -/
  trips : Nat
  /-- Forgiveness timer. -/
  forgive : Nat
  /-- Overflow flag. -/
  flag : Bool
  /-- Trip total. -/
  total : Nat
  deriving DecidableEq, Repr

/-- A guard group entry in force (R92). -/
structure GroupEntry where
  /-- Step. -/
  step : Nat
  /-- Floor. -/
  floor : Nat
  /-- Recovery. -/
  recovery : Nat
  deriving DecidableEq, Repr

/-- One guard group. -/
structure Group where
  /-- Entry in force. -/
  entry : GroupEntry
  /-- Target index, 61 for MUTE. -/
  target : Nat
  /-- Applied index. -/
  applied : Nat
  /-- Recovery timer. -/
  timer : Nat
  deriving DecidableEq, Repr

/-- The Stability Guard. -/
structure Sgd where
  /-- The 24 detectors. -/
  detectors : Regs Detector 24
  /-- The 8 groups. -/
  groups : Regs Group 8
  /-- Detector mask of the pending clear (R110). -/
  clearDetectors : BitVec 24
  /-- Restore mask of the pending clear (R110). -/
  clearGroups : BitVec 8
  deriving DecidableEq, Repr

/-! ### Survey Unit (10_level_and_decay_survey.md) -/

/-- The survey states. -/
inductive SurveyState
  | idle | waiting | measuring
  deriving DecidableEq, Repr

/-- The survey modes (R194). -/
inductive SurveyMode
  | levelSingle | levelRepeat | levelSweep | levelRepeatSweep | decay
  deriving DecidableEq, Repr

/-- The survey triggers (R194). -/
inductive Trigger
  | now | mark | swap
  deriving DecidableEq, Repr

/-- A survey configuration (R194). -/
structure SurveyConfig where
  /-- Mode. -/
  mode : SurveyMode
  /-- Start channel. -/
  start : Nat
  /-- Group G. -/
  group : Nat
  /-- Exponent k. -/
  exponent : Nat
  /-- Trigger. -/
  trigger : Trigger
  deriving DecidableEq, Repr

/-- The Survey Unit. The RESULTS table stands with the other tables. -/
structure Svu where
  /-- Survey state. -/
  state : SurveyState
  /-- Configuration in force. -/
  config : Option SurveyConfig
  /-- Start pending, with its configuration. -/
  startPending : Option SurveyConfig
  /-- Trigger pending. -/
  triggerPending : Bool
  /-- Channel position j. -/
  position : Nat
  /-- Window counter; the decay count in DECAY. -/
  counter : Nat
  /-- Sum of squares. -/
  sum : Nat
  /-- Peak. -/
  peak : Nat
  /-- Survey envelope E. -/
  envelope : Nat
  /-- Decay reference. -/
  reference : Option Int
  /-- Time t20. -/
  t20 : Option Nat
  /-- Time t30. -/
  t30 : Option Nat
  /-- Sequence counter, wrapping at 256. -/
  sequence : Nat
  deriving DecidableEq, Repr

/-! ### The machine -/

/-- The whole state. -/
structure State where
  /-- Ring Receiver. -/
  rrx : Rrx
  /-- Ring Transmitter. -/
  rtx : Rtx
  /-- Command Unit. -/
  cmu : Cmu
  /-- Table Store. -/
  tables : Tables
  /-- Table Loader. -/
  tld : Tld
  /-- Delay Line Manager: lines 0..39. -/
  lines : Regs Line 40
  /-- Delay Memory Controller. -/
  dmc : Dmc
  /-- Delay memory. -/
  memory : Memory
  /-- Tap Engine. -/
  tpe : Tpe
  /-- Input/Output Stages. -/
  ios : Ios
  /-- Scene Controller. -/
  scc : Scc
  /-- Stability Guard. -/
  sgd : Sgd
  /-- Survey Unit. -/
  svu : Svu
  /-- A window runs: its start has been taken, its end has not. -/
  inWindow : Bool
  /-- How the delay memory has gone without refresh: an argument of the free values. -/
  lapse : Lapse
  /-- Races met so far: an argument of the free choice. -/
  draws : Nat
  /-- The commands that wait, first in, first out. -/
  pending : List Instr
  deriving DecidableEq, Repr

/-- The reasons for which the model stops. -/
inductive Fault
  /-- Raised by a step that would access a delay memory row of 4096 or above, which does not exist. No LINES
  table that passes R33 names one, so no run meets it. Safe: the model stops where the manual is silent. -/
  | absentRow
  deriving DecidableEq, Repr

/-- The reasons for which the model has no meaning for a command. -/
inductive Refusal
  /-- Raised by `exec` for a command that has no meaning yet. Safe: the model stops. No arm of `exec`
  answers it. -/
  | notModelled (mnemonic : String)
  deriving DecidableEq, Repr

/-! ### The values of power-on reset -/

/-- The default TIMING record (R48). -/
def Timing.default : Timing :=
  { budget := 1200, rowWait := 1, turnaround := 2, rowGap := 0, rowGapOn := false, slow := false,
    refreshOn := true, longBase := true, factor := 15 }

/-- A scene bank of zero words (R180). -/
def SceneBank.blank : SceneBank :=
  { header := ⟨0#24, 0#24, 0#24⟩, taps := Regs.fill 1024 ⟨0#24, 0#24, 0#24⟩,
    mods := Regs.fill 32 ⟨0#24, 0#24, 0#24⟩ }

/-- The stored words after power-on reset (R209). -/
def Tables.initial : Tables :=
  { bankA := SceneBank.blank, bankB := SceneBank.blank,
    inputs := Regs.fill 24 0x0000FF#24, outputs := Regs.fill 48 0x0000FF#24,
    lines := Regs.fill 40 0#24, detectors := Regs.fill 24 ⟨0#24, 0#24⟩,
    groups := Regs.fill 8 0x008283#24, timing := ⟨0x604CB0#24, 0x00000F#24⟩,
    ringset := 0x000103#24, results := Regs.fill 16 ⟨0#24, 0#24, 0#24⟩ }

/-- The zero DETECTORS entry in force after power-on reset (R91, R112). -/
def DetectorEntry.zero : DetectorEntry :=
  { enable := false, group := 0, action := .note, threshold := 0, trim := 0, debounce := 0, limit := 0,
    forgiveness := 0 }

/-- A detector after power-on reset (R112). -/
def Detector.initial : Detector :=
  { entry := DetectorEntry.zero, fast := 0, slow := 0, debounce := 0, trips := 0, forgive := 0,
    flag := false, total := 0 }

/-- A group after power-on reset (R92, R112). -/
def Group.initial : Group :=
  { entry := { step := 3, floor := 40, recovery := 32 }, target := 0, applied := 0, timer := 0 }

/-- The machine right after a power-on reset at tick 0 with the straps at 0: every field as the block
chapters' tables give it. The straps, the tick, and the fields of the loader that mean something only when it
is OPEN are the model's choices (notes: assumptions 5 and 9). -/
def State.reset : State :=
  { rrx :=
      { lock := .searching, goodCount := 0, badCount := 0, prevNumber := 0#8, period := 512,
        firstPending := false, lastStart := 0, watch := none, localTimer := some 512,
        heldFrame := Regs.fill 128 0#24, ringset := { tolerance := 3, acquire := 16 },
        badFrames := 0, missingFrames := 0, slips := 0, lockLosses := 0 },
    rtx := { mode := .originate, number := 255#8, sent := none },
    cmu :=
      { unit := .idle, assembly := none, words := [], overflow := false, damaged := false,
        replyBuffer := [], headerHeld := false, overrun := false, shedNote := false,
        restartPending := false, overruns := 0, truncated := 0, damagedCount := 0, fault := none,
        laterCount := 0, nodeAddress := some 0 },
    tables := Tables.initial,
    tld :=
      { isOpen := false, bank := .a, table := .header, next := 0, remaining := 0,
        direction := .ascending, partialWords := [], timeout := 1, idle := none },
    lines := Regs.fill 40 { base := 0, rows := 0, wp := 0, fill := 0 },
    dmc :=
      { timing := Timing.default, openRow := none, direction := none, spend := 0, pendingRefresh := 0,
        refreshDue := some 1470, refreshOverruns := 0, shedLast := 0, shedWorst := 0, shedWindows := 0 },
    memory := [],
    tpe :=
      { held := Regs.fill 1024 0#24, outs := Regs.fill 48 0#50, buses := Regs.fill 16 0#50,
        phases := Regs.fill 32 0#20, busClips := 0 },
    ios :=
      { inputs := Regs.fill 24 { slot := none, trim := 0, invert := false },
        inApplied := Regs.fill 24 0,
        outputs := Regs.fill 48 { slot := none, trim := 0 },
        outApplied := Regs.fill 48 0,
        queue := [QueueEntry.blank, QueueEntry.blank], outClips := 0,
        conditioned := Regs.fill 24 0#24 },
    scc :=
      { scene := .held, ramp := 0, target := none, active := .a, shadowLocked := false,
        swapDue := false, swaps := 0, windowState := .held },
    sgd :=
      { detectors := Regs.fill 24 Detector.initial, groups := Regs.fill 8 Group.initial,
        clearDetectors := 0#24, clearGroups := 0#8 },
    svu :=
      { state := .idle, config := none, startPending := none, triggerPending := false, position := 0,
        counter := 0, sum := 0, peak := 0, envelope := 0, reference := none, t20 := none, t30 := none,
        sequence := 0 },
    inWindow := false, lapse := { windows := 0, served := [] }, draws := 0, pending := [] }

end Sys2Proof.Machine
end

