-- ==== Sys2Proof/Machine/Operands.lean ====
section
/-! DEFINITION. Reading and forming words: bit fields, the layouts of the table entries (R209) and of the
commands' arguments (R208), and the plain counting and rounding that several blocks share. -/

namespace Sys2Proof.Machine

/-! ### Bit fields -/

/-- The unsigned field in bits `hi..lo` of a word (11_word_formats.md). -/
def field (w : Word) (hi lo : Nat) : Nat := (w.toNat >>> lo) % 2 ^ (hi + 1 - lo)

/-- The two's complement field in bits `hi..lo` of a word (11_word_formats.md). -/
def signedField (w : Word) (hi lo : Nat) : Int :=
  if field w hi lo < 2 ^ (hi - lo) then (field w hi lo : Int)
  else (field w hi lo : Int) - 2 ^ (hi + 1 - lo)

/-- Bit `b` of a word. -/
def bit (w : Word) (b : Nat) : Bool := w.getLsbD b

/-- A word that holds `v` in the `width` bits from bit `lo` up and 0 elsewhere. -/
def placed (lo width v : Nat) : Word := BitVec.ofNat 24 ((v % 2 ^ width) <<< lo)

/-- A word that holds a two's complement `v` in the `width` bits from bit `lo` up and 0 elsewhere. -/
def placedSigned (lo width : Nat) (v : Int) : Word := placed lo width (v % 2 ^ width).toNat

/-- A word with bit `b` as given and 0 elsewhere. -/
def flagAt (b : Nat) (v : Bool) : Word := if v then placed b 1 1 else 0#24

/-! ### Counting and rounding -/

/-- A counter that saturates at 65535, `n` higher (00_scope.md, "saturating"). -/
def saturate (c n : Nat) : Nat := min (c + n) 65535

/-- The nearer end of the sample range for a value outside it, and the value itself inside (R26, R124). -/
def clampSample (x : Int) : Int := max (-8388608) (min x 8388607)

/-- Whether a value lies outside the sample range (R26, R124). -/
def clips (x : Int) : Bool := x < -8388608 || 8388607 < x

/-- An accumulator rounded to a sample value: floor((A + 16384)/32768) (R25, R123). -/
def roundAccumulator (a : Accumulator) : Int := (a.toInt + 16384) / 32768

/-- One index nearer to the target (R109, R122). -/
def stepToward (applied target : Nat) : Nat :=
  if applied < target then applied + 1 else if target < applied then applied - 1 else applied

/-! ### Scene bank entries (R5, R177, R178) -/

/-- A tap entry's fields (R5). -/
structure Tap where
  /-- Source line code, 0..63. -/
  source : Nat
  /-- Destination code, 0..63. -/
  destination : Nat
  /-- Guard group code, 0..15. -/
  group : Nat
  /-- Generator code, 0..63. -/
  generator : Nat
  /-- Integer delay D. -/
  delay : Nat
  /-- Fraction F. -/
  fraction : Nat
  /-- Gain g. -/
  gain : Int
  deriving DecidableEq, Repr

/-- The fields of a TAPS entry (R209). -/
def tapOf (e : Triple) : Tap :=
  { source := field e.w0 23 18, destination := field e.w0 17 12, group := field e.w0 11 8,
    generator := field e.w0 5 0, delay := field e.w1 16 0, fraction := field e.w2 23 16,
    gain := signedField e.w2 15 0 }

/-- The number of taps processed per window: a value above 1024 is used as 1024 (R4, R177). -/
def tapCount (header : Triple) : Nat := min (field header.w0 10 0) 1024

/-- The ramp length R in windows: below 16 used as 16, above 16384 used as 16384 (R70, R177). -/
def rampLength (header : Triple) : Nat := max 16 (min (field header.w1 14 0) 16384)

/-- Tail policy CLEAR rather than KEEP (R177). -/
def tailClear (header : Triple) : Bool := bit header.w2 0

/-- Depth W of a MODS entry (R178). -/
def depthOf (e : Triple) : Nat := field e.w0 15 0

/-- Rate Δ of a MODS entry (R178). -/
def rateOf (e : Triple) : Nat := field e.w1 11 0

/-- Initial phase of a MODS entry (R178). -/
def initialPhaseOf (e : Triple) : BitVec 20 := BitVec.ofNat 20 (field e.w2 19 0)

/-! ### System table entries -/

/-- A slot code: 0..127 a slot, 128..255 NONE (R115, R116). -/
def slotOf (code : Nat) : Option (Fin 128) := if h : code < 128 then some ⟨code, h⟩ else none

/-- The fields of an INPUTS entry (R115, R209). -/
def inputOf (w : Word) : InputEntry :=
  { slot := slotOf (field w 7 0), trim := field w 13 8, invert := bit w 14 }

/-- The fields of an OUTPUTS entry (R116, R209). -/
def outputOf (w : Word) : OutputEntry := { slot := slotOf (field w 7 0), trim := field w 13 8 }

/-- Base row of a LINES entry (R31, R209). -/
def baseOf (w : Word) : Nat := field w 11 0

/-- Row count of a LINES entry (R31, R209). -/
def rowsOf (w : Word) : Nat := field w 19 12

/-- The action a code names (R91). -/
def actionOf : Nat → Action
  | 0 => .note
  | 1 => .reduce
  | 2 => .cut
  | _ => .unassigned

/-- The fields of a DETECTORS entry (R91, R209). -/
def detectorOf (e : Pair) : DetectorEntry :=
  { enable := bit e.w0 0, group := Fin.ofNat 8 (field e.w0 3 1), action := actionOf (field e.w0 5 4),
    threshold := field e.w1 6 0, trim := signedField e.w1 12 8, debounce := Fin.ofNat 4 (field e.w0 7 6),
    limit := Fin.ofNat 8 (field e.w0 10 8), forgiveness := field e.w0 18 11 }

/-- D = 16, 64, 256, 1024 for the debounce codes 0..3 (R91). -/
def DetectorEntry.debounceWindows (e : DetectorEntry) : Nat := 16 * 4 ^ e.debounce.val

/-- N = 1, 2, 4, …, 128 for the trip limit codes 0..7 (R91). -/
def DetectorEntry.tripLimit (e : DetectorEntry) : Nat := 2 ^ e.limit.val

/-- The threshold plus the trim, held to 0..111 (R98). -/
def DetectorEntry.rise (e : DetectorEntry) : Int := max 0 (min ((e.threshold : Int) + e.trim) 111)

/-- The fields of a GROUPS entry (R92, R209). -/
def groupOf (w : Word) : GroupEntry :=
  { step := field w 3 0, floor := field w 9 4, recovery := field w 17 10 }

/-- The fields of the TIMING entry (R48, R209). -/
def timingOf (e : Pair) : Timing :=
  { budget := field e.w0 10 0, rowWait := field e.w0 12 11, turnaround := field e.w0 15 13,
    rowGap := field e.w0 18 16, rowGapOn := bit e.w0 19, slow := bit e.w0 20, refreshOn := bit e.w0 21,
    longBase := bit e.w0 22, factor := field e.w1 6 0 }

/-- The fields of the RINGSET entry (R134, R209). -/
def ringOf (w : Word) : RingRecord := { tolerance := field w 3 0, acquire := field w 11 4 }

/-! ### Tables by id (R181) -/

/-- Entries of the table with an id: none for ids 11 and above (R181). -/
def tableEntries : Nat → Option Nat
  | 0 => some 1
  | 1 => some 1024
  | 2 => some 32
  | 3 => some 24
  | 4 => some 48
  | 5 => some 40
  | 6 => some 24
  | 7 => some 8
  | 8 => some 1
  | 9 => some 1
  | 10 => some 16
  | _ => none

/-- Words per entry of the table with an id (R181). -/
def tableWidth : Nat → Nat
  | 0 => 3
  | 1 => 3
  | 2 => 3
  | 6 => 2
  | 8 => 2
  | 10 => 3
  | _ => 1

/-- The bank table an id 0..2 names (R181). -/
def bankTableOf : Nat → Option BankTable
  | 0 => some .header
  | 1 => some .taps
  | 2 => some .mods
  | _ => none

/-- The id of a bank table (R181). -/
def BankTable.id : BankTable → Nat
  | .header => 0
  | .taps => 1
  | .mods => 2

/-! ### Arguments (R208) -/

/-- Argument 1 of READ, WRITE and LOAD-OPEN: table id. -/
def argTable (w : Word) : Nat := field w 23 20

/-- Argument 1 of READ, WRITE and LOAD-OPEN: the bank selector is SHADOW rather than ACTIVE. -/
def argShadow (w : Word) : Bool := bit w 19

/-- Argument 1 of READ, WRITE and LOAD-OPEN: start index. -/
def argStart (w : Word) : Nat := field w 9 0

/-- Argument 2 of READ and LOAD-OPEN: count. -/
def argCount (w : Word) : Nat := field w 10 0

/-- Argument 2 of LOAD-OPEN: direction, none for code 3. -/
def argDirection (w : Word) : Option Direction :=
  match field w 12 11 with
  | 0 => some .ascending
  | 1 => some .descending
  | 2 => some .fill
  | _ => none

/-- Argument 2 of LOAD-OPEN: timeout. -/
def argTimeout (w : Word) : Nat := field w 20 13

/-- Argument 1 of SURVEY-START: mode, none for codes 5..7. -/
def argMode (w : Word) : Option SurveyMode :=
  match field w 2 0 with
  | 0 => some .levelSingle
  | 1 => some .levelRepeat
  | 2 => some .levelSweep
  | 3 => some .levelRepeatSweep
  | 4 => some .decay
  | _ => none

/-- Argument 1 of SURVEY-START: trigger, none for code 3. -/
def argTrigger (w : Word) : Option Trigger :=
  match field w 5 4 with
  | 0 => some .now
  | 1 => some .mark
  | 2 => some .swap
  | _ => none

/-- Word `i` of a message's arguments; the argument counts are checked before an argument is read. -/
def argAt (args : List Word) (i : Nat) : Word := args.getD i 0#24

end Sys2Proof.Machine
end

