-- ==== Sys2Proof/Machine/Levels.lean ====
section
/-! DEFINITION. The two scales of the introduction: the linear factor Ga of an attenuation index (R1) and the
quarter-dB level lev (R2), both in exact integer arithmetic. -/

namespace Sys2Proof.Machine

/-- Ga(0)..Ga(60), each round(32768 × 10^(−k/40)) (R1). That every value is the rounded one is the law
ga_rounds in Laws/Levels.lean. -/
def gaTable : List Nat :=
  [32768, 30935, 29205, 27571, 26029, 24573, 23198, 21900, 20675, 19519] ++
    [18427, 17396, 16423, 15504, 14637, 13818, 13045, 12315, 11627, 10976] ++
    [10362, 9783, 9235, 8719, 8231, 7771, 7336, 6925, 6538, 6172] ++
    [5827, 5501, 5193, 4903, 4629, 4370, 4125, 3894, 3677, 3471] ++
    [3277, 3093, 2920, 2757, 2603, 2457, 2320, 2190, 2068, 1952] ++
    [1843, 1740, 1642, 1550, 1464, 1382, 1305, 1232, 1163, 1098] ++
    [1036]

/-- The linear factor of an attenuation index: Ga(k), with Ga(61) = 0 for MUTE (R1). -/
def ga (k : Nat) : Nat := gaTable.getD k 0

/-- MUTE (R1). -/
def mute : Nat := 61

/-- A value scaled by an attenuation index, rounding toward minus infinity: floor(u × Ga(k) / 32768)
(R19, R121, R124). -/
def attenuate (u : Int) (k : Nat) : Int := u * (ga k : Int) / 32768

/-- The least number of quarter-dB steps m, from m on and at most fuel more, at which p × 10^(steps taken)
reaches 2^1840. -/
def levSteps : Nat → Nat → Nat → Nat
  | 0, _, m => m
  | fuel + 1, p, m => if 2 ^ 1840 ≤ p then m else levSteps fuel (p * 10) (m + 1)

/-- The quarter-dB level: floor(40 × log10(v / 2^46)), raised to −480 (R2). Since 40 × log10(v / 2^46) ≥ −m
means v^40 × 10^m ≥ 2^1840, the level is −m for the least such m, and −480 where none is below 480. -/
def lev (v : Nat) : Int := -(levSteps 480 (v ^ 40) 0 : Int)

end Sys2Proof.Machine
end

