-- ==== Sys2Proof/Config.lean ====
section
/-! DEFINITION. The free values: what the manual leaves open while the part goes on. None has a body, so
no proof can learn one, and a statement holds for every value of each. -/

namespace Sys2Proof

/-- The sample that a delay memory word yields when nothing written to it can be relied on: the contents
at power-on (R44), and a word held too long without refresh (R68). The first argument counts the windows begun
without refresh and the power-on resets so far, the second is the word address. Notes: assumption 6. -/
opaque Config.lostWord : Nat → Nat → Sample

/-- The delay memory's retention time, counted in windows begun with refresh disabled: a word held for
more of them may come back altered (R68). The manual does not give it. Notes: assumption 7. -/
opaque Config.retention : Nat

/-- The outcomes of the races that fall inside one step, in the order in which they are met: the manual
lets either event be taken first (R42, R87, R172, R191). The argument is State's count of races met so far.
Notes: assumption 8. -/
opaque Config.raceChoice : Nat → Bool

end Sys2Proof
end

