-- ==== Sys2Proof/Machine/Memory.lean ====
section
/-! DEFINITION. The delay memory: reading and writing a word, and the cost of an access in units
(03_the_memory_window.md, R47 to R55). -/

namespace Sys2Proof.Machine

/-! ### Words -/

/-- What is stored at an address, if anything has been written there since power-on. -/
def Memory.find : Memory → Nat → Option DelayCell
  | [], _ => none
  | c :: m, a => if c.address = a then some c else Memory.find m a

/-- A word written: it replaces what its address held and keeps the rising order. -/
def Memory.write : Memory → Nat → Sample → Nat → Memory
  | [], a, x, age => [⟨a, x, age⟩]
  | c :: m, a, x, age =>
    if a < c.address then ⟨a, x, age⟩ :: c :: m
    else if a = c.address then ⟨a, x, age⟩ :: m
    else c :: Memory.write m a x age

/-- The most windows in a row that a word written at a count of windows without refresh has been held since,
up to the count `upto`, with no refresh between: a refresh keeps the whole delay memory (R55), so the holding
starts afresh at each count where one was served. -/
def longestHold (age : Nat) : Nat → List Nat → Nat
  | upto, [] => upto - age
  | upto, r :: rest => max (upto - max r age) (longestHold age (min r upto) rest)

/-- A word has never been held without refresh for more windows than the retention time (R68). -/
def DelayCell.kept (c : DelayCell) (l : Lapse) : Bool := longestHold c.age l.windows l.served ≤ Config.retention

/-- The sample a read of an address yields. A word that nothing has written yields a free value (R44), and so
does one held without refresh for longer than the retention time (R68). -/
def readSample (m : Memory) (lapse : Lapse) (a : Nat) : Sample :=
  match m.find a with
  | none => Config.lostWord lapse.windows a
  | some c => if c.kept lapse then c.sample else Config.lostWord lapse.windows a

/-- A refresh is served at this count of windows without refresh (R55). -/
def Lapse.refreshed (l : Lapse) : Lapse :=
  if l.served.head? = some l.windows then l else { l with served := l.windows :: l.served }

/-- A window is begun without refresh (R68). -/
def Lapse.unrefreshed (l : Lapse) : Lapse := { l with windows := l.windows + 1 }

/-! ### Costs -/

/-- The open row and the previous direction (R51). -/
structure RowState where
  /-- Open row. -/
  openRow : Option Nat
  /-- Previous direction. -/
  direction : Option Access
  deriving DecidableEq, Repr

/-- The row state the controller holds. -/
def Dmc.rowState (d : Dmc) : RowState := ⟨d.openRow, d.direction⟩

/-- A figure, doubled in slow mode (R54). -/
def Timing.scaled (t : Timing) (x : Nat) : Nat := if t.slow then 2 * x else x

/-- CG when the row gap is enabled and 0 when it is off (R48). -/
def Timing.rowGapEff (t : Timing) : Nat := if t.rowGapOn then t.rowGap else 0

/-- The refresh interval in units: factor × base (R48). -/
def Timing.interval (t : Timing) : Nat := t.factor * (if t.longBase then 98 else 25)

/-- The cost of a refresh, without a gap (R55). -/
def Timing.refreshCost (t : Timing) : Nat := t.scaled 10

/-- An access is on-page when a row is open and it lies in that row (R52). -/
def RowState.onPage (r : RowState) (row : Nat) : Bool := r.openRow == some row

/-- The turnaround term: TA when the previous direction is not none and differs (R53). -/
def Timing.turnTerm (t : Timing) (r : RowState) (dir : Access) : Nat :=
  match r.direction with
  | none => 0
  | some d => if d = dir then 0 else t.turnaround

/-- The gap before an access: the larger of the turnaround term and the row gap term (R53). -/
def Timing.gap (t : Timing) (r : RowState) (dir : Access) (row : Nat) : Nat :=
  max (t.turnTerm r dir) (if r.onPage row then 0 else t.rowGapEff)

/-- The cost of an access: its gap plus its on-page or off-page figure, doubled in slow mode
(R52 to R54). -/
def Timing.accessCost (t : Timing) (r : RowState) (dir : Access) (row : Nat) : Nat :=
  t.scaled (t.gap r dir row + (if r.onPage row then 2 else 4 + t.rowWait))

/-- The row of a word address (R39, R52). -/
def rowOfAddress (a : Nat) : Nat := a / 1024

/-- The cost of a run of accesses, each costed as if those before it had been made, and the row state they
leave (R60). -/
def Timing.runCost (t : Timing) (dir : Access) : RowState → List Nat → Nat × RowState
  | r, [] => (0, r)
  | r, a :: rest =>
    let after := t.runCost dir ⟨some (rowOfAddress a), some dir⟩ rest
    (t.accessCost r dir (rowOfAddress a) + after.1, after.2)

/-- The mandatory bound M of a TIMING entry (R49). -/
def Timing.mandatory (t : Timing) : Nat :=
  t.scaled (2 * 10 + 2 * t.turnaround + 40 * (4 + t.rowWait + t.rowGapEff))

/-- The bus reserve for a number of enabled bus lines (R59). -/
def Timing.reserve (t : Timing) (buses : Nat) : Nat :=
  if buses = 0 then 0 else t.scaled (t.turnaround + buses * (4 + t.rowWait + t.rowGapEff))

/-- Whether the controller accepts a TIMING entry (R49). -/
def Timing.acceptable (t : Timing) : Bool :=
  256 ≤ t.budget && t.budget ≤ 1800 && 1 ≤ t.factor && t.factor ≤ 64 && t.mandatory ≤ t.budget

/-! ### Lines -/

/-- The length of a line in samples (R31). -/
def Line.length (l : Line) : Nat := 1024 * l.rows

/-- The word address of a position within a line (R37, R39). -/
def Line.address (l : Line) (position : Nat) : Nat := l.base * 1024 + position

/-- The address of a read at an integer delay (R39). -/
def Line.readAddress (l : Line) (delay : Nat) : Nat :=
  l.address (((l.wp : Int) - (delay : Int)) % (l.length : Int)).toNat

/-- The cleared line: write position and fill count 0 (R41). -/
def Line.cleared (l : Line) : Line := { l with wp := 0, fill := 0 }

/-- The region of a line lies in the 4096 rows of the delay memory; a disabled line has no region (R31). -/
def Line.fits (base rows : Nat) : Bool := rows == 0 || base + rows ≤ 4096

/-- One write to the delay memory by the controller, of a line at a position: it is costed from the row state
the previous access left, added to the spend, and leaves its own row state (R51, R58, R62). -/
def writeLine (l : Line) (position : Nat) (x : Sample) (s : State) : State :=
  let a := l.address position
  { s with
    dmc := { s.dmc with
      spend := s.dmc.spend + s.dmc.timing.accessCost s.dmc.rowState .write (rowOfAddress a)
      openRow := some (rowOfAddress a)
      direction := some .write }
    memory := s.memory.write a x s.lapse.windows }

end Sys2Proof.Machine
end

