-- ==== Sys2Proof/Machine/Ops.lean ====
section
/-! DEFINITION. The shared operations that reach several blocks: raising a fault to the fault record (R172),
clearing lines (R41), a survey trigger (R198), and the bank swap (R74, R75). -/

namespace Sys2Proof.Machine

/-! ### Banks -/

/-- The other bank. -/
def BankName.other : BankName → BankName
  | .a => .b
  | .b => .a

/-- The tables of a bank. -/
def Tables.bank (t : Tables) : BankName → SceneBank
  | .a => t.bankA
  | .b => t.bankB

/-- The tables with a bank replaced. -/
def Tables.putBank (t : Tables) (n : BankName) (b : SceneBank) : Tables :=
  match n with
  | .a => { t with bankA := b }
  | .b => { t with bankB := b }

/-- The active bank (R179). -/
def activeBank (s : State) : SceneBank := s.tables.bank s.scc.active

/-- The name of the shadow bank (R179). -/
def shadowName (s : State) : BankName := s.scc.active.other

/-- The ramp length R of the active bank (R70). -/
def activeRamp (s : State) : Nat := rampLength (activeBank s).header

/-! ### Faults -/

/-- A fault reaches the fault record while the outgoing frame number is `number`: an empty record captures it,
and a record that holds a fault counts it, up to 255 (R172). -/
def raiseAt (number : BitVec 8) (kind : FaultKind) (detail : Nat) (s : State) : State :=
  match s.cmu.fault with
  | none => { s with cmu := { s.cmu with fault := some ⟨kind, number, detail⟩ } }
  | some _ => { s with cmu := { s.cmu with laterCount := min (s.cmu.laterCount + 1) 255 } }

/-- A fault reaches the fault record now (R172). -/
def raise (kind : FaultKind) (detail : Nat) (s : State) : State := raiseAt s.rtx.number kind detail s

/-! ### Lines -/

/-- The clears of a set of lines reach the Tap Engine: the held value of every index whose source line, in the
active TAPS table, is cleared becomes 0 (R18, R41). -/
def zeroHeld (cleared : Nat → Bool) (s : State) : State :=
  { s with tpe := { s.tpe with
      held := Regs.zip (fun e h => if cleared (tapOf e).source then 0#24 else h) (activeBank s).taps s.tpe.held } }

/-- The bus lines 24..39 cleared, enabled or not (R42). -/
def clearBusLines (lines : Regs Line 40) : Regs Line 40 :=
  Regs.tab fun i => if i.val < 24 then lines.get i else (lines.get i).cleared

/-- Every line cleared (R43). -/
def clearAllLines (lines : Regs Line 40) : Regs Line 40 := lines.map Line.cleared

/-! ### Survey trigger -/

/-- A trigger event at the Survey Unit (R198). -/
def surveyTrigger (t : Trigger) (s : State) : State :=
  match s.svu.state, s.svu.startPending, s.svu.config with
  | .idle, _, _ => s
  | _, some _, _ => s
  | _, none, none => s
  | _, none, some c =>
    if c.trigger = t then { s with svu := { s.svu with triggerPending := true } } else s

/-! ### The swap -/

/-- The generator phases and held values of the Tap Engine as a swap and RESTART set them, from the bank that
is active (R9, R10, R18). -/
def Tpe.reload (t : Tpe) (b : SceneBank) : Tpe :=
  { t with phases := b.mods.map initialPhaseOf, held := Regs.fill 1024 0#24 }

/-- The Scene Controller's part of a swap (R74). -/
def Scc.swapped (c : Scc) : Scc :=
  { c with active := c.active.other, shadowLocked := false, swapDue := false,
           swaps := (c.swaps + 1) % 65536 }

/-- A bank swap with all it reaches (R74, R75). -/
def swap (s : State) : State :=
  let b := s.tables.bank s.scc.active.other
  surveyTrigger .swap
    { s with
      scc := s.scc.swapped
      tpe := s.tpe.reload b
      lines := if tailClear b.header then clearBusLines s.lines else s.lines }

/-- A swap that is due is carried out as soon as no window runs (R76). -/
def settleSwap (s : State) : State :=
  if s.scc.swapDue && !s.inWindow then swap s else s

end Sys2Proof.Machine
end

