-- ==== Sys2Proof/Machine/Scene.lean ====
section
/-! DEFINITION. The Scene Controller (04_scene_transitions.md): the ramp factor, the window-end step, the
mark, and the commands COMMIT, CANCEL, HUSH and RESUME. -/

namespace Sys2Proof.Machine

/-- The status of a message (R161). -/
inductive Status
  | ok | busy | state | range | length | unknown | damaged
  deriving DecidableEq, Repr

/-- The code of a status (R161). -/
def Status.code : Status → Nat
  | .ok => 0
  | .busy => 1
  | .state => 2
  | .range => 3
  | .length => 4
  | .unknown => 5
  | .damaged => 6

/-- What the owner of a command answers: the state after its action, the status, and the data words of the
reply (R164, R165). -/
structure Verdict where
  /-- The state after the command's own action. -/
  after : State
  /-- The status. -/
  status : Status
  /-- The data words. -/
  data : List Word
  deriving DecidableEq, Repr

/-- A refusal without data words: nothing changes. -/
def refuse (status : Status) (s : State) : Verdict := ⟨s, status, []⟩

/-- An acceptance without data words. -/
def accept (s : State) : Verdict := ⟨s, .ok, []⟩

/-! ### The ramp -/

/-- The ramp factor r for a scene state, a ramp position and a ramp length (R71). -/
def rampFactorOf : SceneState → Nat → Nat → Nat
  | .steady, _, _ => 1024
  | .armed, _, _ => 1024
  | .held, _, _ => 0
  | .fadeOut, ramp, length => 1024 * ramp / length
  | .fadeIn, ramp, length => 1024 * ramp / length

/-- The ramp factor r the Tap Engine fixes at a window start (R71). -/
def rampFactor (s : State) : Nat := rampFactorOf s.scc.scene s.scc.ramp (activeRamp s)

/-- A fade-out has reached ρ = 0 at a window end, and its target acts (R73). -/
def reachZero (s : State) : State :=
  match s.scc.target with
  | some .swapFadeIn =>
    let t := swap s
    { t with scc := { t.scc with scene := .fadeIn, ramp := 0, target := none } }
  | some .swapHold =>
    let t := swap s
    { t with scc := { t.scc with scene := .held, ramp := 0, target := none } }
  | some .hold => { s with scc := { s.scc with scene := .held, ramp := 0, target := none } }
  | none => { s with scc := { s.scc with scene := .held, ramp := 0, target := none } }

/-- A fade-in has reached ρ = R at a window end (R72). -/
def reachFull (s : State) : State :=
  { s with scc := { s.scc with scene := .steady, ramp := activeRamp s } }

/-- The window-end step (R72). -/
def sceneWindowEnd (s : State) : State :=
  if s.scc.scene = s.scc.windowState then
    match s.scc.scene with
    | .fadeOut =>
      if s.scc.ramp ≤ 1 then reachZero s
      else { s with scc := { s.scc with ramp := s.scc.ramp - 1 } }
    | .fadeIn =>
      let next := if s.scc.ramp < activeRamp s then s.scc.ramp + 1 else s.scc.ramp
      if next = activeRamp s then reachFull s else { s with scc := { s.scc with ramp := next } }
    | .steady => s
    | .armed => s
    | .held => s
  else s

/-- A fade-out reaches ρ = 0 at this window end, and its target acts (R72, R73). -/
def fadeOutEnds (s : State) : Bool :=
  s.scc.scene == .fadeOut && s.scc.windowState == .fadeOut && s.scc.ramp ≤ 1

/-- A fade-in reaches ρ = R at this window end (R72). -/
def fadeInEnds (s : State) : Bool :=
  s.scc.scene == .fadeIn && s.scc.windowState == .fadeIn &&
    (s.scc.ramp + 1 == activeRamp s || s.scc.ramp == activeRamp s)

/-- This window end will make a swap under tail policy CLEAR (R42, R72, R73). -/
def swapClearsHere (s : State) : Bool :=
  fadeOutEnds s &&
    (s.scc.target == some .swapFadeIn || s.scc.target == some .swapHold) &&
    tailClear (s.tables.bank s.scc.active.other).header

/-- A mark arrival at the Scene Controller (R82). -/
def sceneMark (s : State) : State :=
  match s.scc.scene with
  | .armed =>
    { s with scc := { s.scc with scene := .fadeOut, ramp := activeRamp s, target := some .swapFadeIn } }
  | .steady => s
  | .fadeOut => s
  | .held => s
  | .fadeIn => s

/-! ### The commands -/

/-- COMMIT at the Scene Controller (R76, R78 to R80). While a swap is due it is BUSY in every scene state (R76). A
swap that becomes due is carried out after the reply is formed, by `settleSwap` or by the window end. -/
def takeCommit (args : List Word) (s : State) : Verdict :=
  if s.tld.isOpen then refuse .state s
  else if s.scc.swapDue then refuse .busy s
  else
    match s.scc.scene with
    | .armed => refuse .busy s
    | .fadeOut => refuse .busy s
    | .fadeIn => refuse .busy s
    | .held =>
      if 2 ≤ field (argAt args 0) 1 0 then refuse .range s
      else accept { s with scc := { s.scc with shadowLocked := true, swapDue := true } }
    | .steady =>
      match field (argAt args 0) 1 0 with
      | 0 =>
        accept { s with scc := { s.scc with
          scene := .fadeOut, ramp := activeRamp s, target := some .swapFadeIn, shadowLocked := true } }
      | 1 =>
        accept { s with scc := { s.scc with scene := .armed, shadowLocked := true } }
      | _ => refuse .range s

/-- CANCEL at the Scene Controller (R81). -/
def takeCancel (_args : List Word) (s : State) : Verdict :=
  match s.scc.scene, s.scc.target with
  | .armed, _ => accept { s with scc := { s.scc with scene := .steady, shadowLocked := false } }
  | .fadeOut, some .swapFadeIn =>
    accept { s with scc := { s.scc with scene := .fadeIn, target := none, shadowLocked := false } }
  | .fadeOut, some .swapHold =>
    accept { s with scc := { s.scc with scene := .fadeIn, target := none, shadowLocked := false } }
  | .fadeOut, some .hold => refuse .state s
  | .fadeOut, none => refuse .state s
  | .steady, _ => refuse .state s
  | .held, _ => refuse .state s
  | .fadeIn, _ => refuse .state s

/-- HUSH at the Scene Controller (R83). -/
def takeHush (_args : List Word) (s : State) : Verdict :=
  match s.scc.scene, s.scc.target with
  | .steady, _ =>
    accept { s with scc := { s.scc with scene := .fadeOut, ramp := activeRamp s, target := some .hold } }
  | .armed, _ =>
    accept { s with scc := { s.scc with
      scene := .fadeOut, ramp := activeRamp s, target := some .hold, shadowLocked := false } }
  | .fadeOut, some .swapFadeIn => accept { s with scc := { s.scc with target := some .swapHold } }
  | .fadeOut, some .swapHold => accept s
  | .fadeOut, some .hold => accept s
  | .fadeOut, none => accept s
  | .held, _ => accept s
  | .fadeIn, _ => accept { s with scc := { s.scc with scene := .fadeOut, target := some .hold } }

/-- RESUME at the Scene Controller (R84). -/
def takeResume (_args : List Word) (s : State) : Verdict :=
  match s.scc.scene, s.scc.target with
  | .held, _ => accept { s with scc := { s.scc with scene := .fadeIn, ramp := 0 } }
  | .fadeOut, some .hold => accept { s with scc := { s.scc with scene := .fadeIn, target := none } }
  | .fadeOut, some .swapHold => accept { s with scc := { s.scc with target := some .swapFadeIn } }
  | .fadeOut, some .swapFadeIn => accept s
  | .fadeOut, none => accept s
  | .steady, _ => accept s
  | .armed, _ => accept s
  | .fadeIn, _ => accept s

/-- The Scene Controller's RESTART values (R89). -/
def Scc.restarted (c : Scc) : Scc :=
  { c with scene := .held, ramp := 0, target := none, shadowLocked := false, swapDue := false,
           windowState := .held }

end Sys2Proof.Machine
end

