-- ==== Sys2Proof/Machine/Guard.lean ====
section
/-! DEFINITION. The Stability Guard (05_the_stability_guard.md): entries taken into force, the pending clear,
the detectors and groups at a window end, and GUARD-CLEAR. -/

namespace Sys2Proof.Machine

/-! ### Window start -/

/-- A stored DETECTORS entry taken into force (R94). -/
def Detector.takeEntry (d : Detector) (e : DetectorEntry) : Detector :=
  if d.entry = e then d
  else if d.entry.enable && e.enable then
    { d with entry := e, debounce := 0, trips := 0, forgive := 0 }
  else if d.entry.enable || e.enable then
    { d with entry := e, fast := 0, slow := 0, debounce := 0, trips := 0, forgive := 0 }
  else { d with entry := e }

/-- A stored GROUPS entry taken into force (R95). -/
def Group.takeEntry (g : Group) (e : GroupEntry) : Group :=
  if g.entry = e then g
  else
    { g with
      entry := e, timer := 0
      target := if g.target ≤ 60 && e.floor < g.target then e.floor else g.target }

/-- A pending clear applied to a detector it names (R111). -/
def Detector.applyClear (d : Detector) : Detector := { d with flag := false, trips := 0, forgive := 0 }

/-- A pending clear applied to a group it names (R111). -/
def Group.applyClear (g : Group) : Group := { g with target := 0, timer := 0 }

/-- A detector's RESTART values (R113). -/
def Detector.restarted (d : Detector) : Detector :=
  { d with fast := 0, slow := 0, debounce := 0, trips := 0, forgive := 0, flag := false }

/-- A group's RESTART values (R113). -/
def Group.restarted (g : Group) : Group := { g with target := 0, applied := 0, timer := 0 }

/-- Step 1 of the window start when RESTART takes effect there (R96, R113). -/
def Sgd.restarted (g : Sgd) : Sgd :=
  { detectors := g.detectors.map Detector.restarted, groups := g.groups.map Group.restarted,
    clearDetectors := 0#24, clearGroups := 0#8 }

/-- Step 2 of the window start: the stored tables taken into force (R94 to R96). -/
def Sgd.takeEntries (g : Sgd) (t : Tables) : Sgd :=
  { g with
    detectors := Regs.zip (fun d e => d.takeEntry (detectorOf e)) g.detectors t.detectors
    groups := Regs.zip (fun d e => d.takeEntry (groupOf e)) g.groups t.groups }

/-- Step 3 of the window start: the pending clear applied, and then empty (R96, R111). -/
def Sgd.applyClears (g : Sgd) : Sgd :=
  { detectors := Regs.tab fun i =>
      if g.clearDetectors.getLsbD i.val then (g.detectors.get i).applyClear else g.detectors.get i
    groups := Regs.tab fun i =>
      if g.clearGroups.getLsbD i.val then (g.groups.get i).applyClear else g.groups.get i
    clearDetectors := 0#24, clearGroups := 0#8 }

/-- The guard's window start (R96). -/
def Sgd.windowStart (g : Sgd) (restart : Bool) (t : Tables) : Sgd :=
  ((if restart then g.restarted else g).takeEntries t).applyClears

/-! ### One detector at a window end -/

/-- One envelope update toward e with time constant 2^k: v + floor((e − v)/2^k) (R97, R202). -/
def trackEnvelope (v e divisor : Nat) : Nat := ((v : Int) + ((e : Int) - (v : Int)) / (divisor : Int)).toNat

/-- The energy of a sample: its square (R97, R199). -/
def energy (x : Sample) : Nat := (x.toInt * x.toInt).toNat

/-- The envelopes of an enabled detector after a window (R97). -/
def Detector.follow (d : Detector) (x : Sample) : Detector :=
  { d with fast := trackEnvelope d.fast (energy x) 64, slow := trackEnvelope d.slow (energy x) 16384 }

/-- The rise condition, tested on the updated envelopes (R98). -/
def Detector.rising (d : Detector) : Bool :=
  lev d.slow + d.entry.rise ≤ lev d.fast && (-240 : Int) ≤ lev d.fast

/-- A trip: the total and the forgiveness timer, and then the trip count by the action and the flag (R100).
The flag beside it says that the detector overflows. -/
def Detector.takeTrip (d : Detector) : Detector × Bool :=
  let t := { d with total := saturate d.total 1, forgive := 0 }
  if d.flag && d.entry.action ≠ .reduce then (t, false)
  else if d.entry.tripLimit ≤ d.trips + 1 then ({ t with flag := true, trips := 0 }, true)
  else ({ t with trips := d.trips + 1 }, false)

/-- An expiry of the forgiveness timer (R101). -/
def Detector.forgiven (d : Detector) : Detector := { d with trips := d.trips - 1, forgive := 0 }

/-- The forgiveness timer at a window end without a trip (R101). -/
def Detector.stepForgiveness (d : Detector) : Detector :=
  if d.forgive + 1 = d.entry.forgiveness * 1024 then d.forgiven else { d with forgive := d.forgive + 1 }

/-- The debounce count of a detector after the rise condition has been tested (R99). -/
def Detector.stepDebounce (d : Detector) (rise : Bool) : Detector :=
  if rise then
    (if d.debounce = d.entry.debounceWindows then d else { d with debounce := d.debounce + 1 })
  else { d with debounce := 0 }

/-- This window end is a trip: the count has just become D (R99). -/
def Detector.tripsNow (d : Detector) (rise : Bool) : Bool :=
  rise && d.debounce ≠ d.entry.debounceWindows && d.debounce + 1 = d.entry.debounceWindows

/-- A detector at a window end, and whether it overflows there (R96 to R101). -/
def Detector.windowEnd (d : Detector) (x : Sample) : Detector × Bool :=
  if d.entry.enable then
    let f := d.follow x
    let c := f.stepDebounce f.rising
    if f.tripsNow f.rising then c.takeTrip else (c.stepForgiveness, false)
  else (d, false)

/-! ### Overflows and groups -/

/-- A REDUCE overflow on its group (R104). -/
def Group.reduce (g : Group) : Group :=
  { g with
    target := if g.target ≤ 60 then min (g.target + g.entry.step) g.entry.floor else g.target
    timer := 0 }

/-- A CUT overflow on its group (R105). -/
def Group.cut (g : Group) : Group := { g with target := mute }

/-- The overflow of a detector with an entry, on its group (R103 to R105). -/
def overflowGroup (e : DetectorEntry) (groups : Regs Group 8) : Regs Group 8 :=
  match e.action with
  | .note => groups
  | .reduce => groups.edit e.group Group.reduce
  | .cut => groups.edit e.group Group.cut
  | .unassigned => groups

/-- What the detectors leave behind at a window end, as they are handled in ascending order. -/
structure GuardRun where
  /-- The detectors so far. -/
  detectors : Regs Detector 24
  /-- The groups so far. -/
  groups : Regs Group 8
  /-- Groups whose recovery timer a REDUCE overflow of this window end has restarted (R108). -/
  reduced : List (Fin 8)
  /-- Groups of the CUT overflows so far, in detector order (R106). -/
  cuts : List (Fin 8)
  deriving DecidableEq, Repr

/-- Detector `i` handled at a window end (R96, R106). -/
def GuardRun.detector (x : Regs Sample 24) (r : GuardRun) (i : Fin 24) : GuardRun :=
  let d := r.detectors.get i
  let after := d.windowEnd (x.get i)
  let r' := { r with detectors := r.detectors.put i after.1 }
  if after.2 then
    { r' with
      groups := overflowGroup d.entry r.groups
      reduced := if d.entry.action = .reduce then r.reduced ++ [d.entry.group] else r.reduced
      cuts := if d.entry.action = .cut then r.cuts ++ [d.entry.group] else r.cuts }
  else r'

/-- Every detector handled, in ascending order (R96). -/
def Sgd.runDetectors (g : Sgd) (x : Regs Sample 24) : GuardRun :=
  (List.finRange 24).foldl (GuardRun.detector x) ⟨g.detectors, g.groups, [], []⟩

/-- An expiry of a group's recovery timer (R108). -/
def Group.recover (g : Group) : Group :=
  { g with target := if 1 ≤ g.target && g.target ≤ 60 then g.target - 1 else g.target, timer := 0 }

/-- A group's recovery timer at a window end (R108). -/
def Group.stepRecovery (g : Group) (restarted : Bool) : Group :=
  if restarted then g
  else if g.timer + 1 = g.entry.recovery * 256 then g.recover
  else { g with timer := g.timer + 1 }

/-- A group at a window end: its recovery timer, and then its applied index (R96, R108, R109). -/
def Group.windowEnd (g : Group) (restarted : Bool) : Group :=
  let r := g.stepRecovery restarted
  { r with applied := stepToward r.applied r.target }

/-- The guard after a window end (R96). -/
def GuardRun.finish (r : GuardRun) (g : Sgd) : Sgd :=
  { g with
    detectors := r.detectors
    groups := Regs.tab fun i => (r.groups.get i).windowEnd (r.reduced.contains i) }

/-! ### The events on their own -/

/-- The overflow of a detector outside a window end: its group, and its fault when it is CUT (R103 to R105). -/
def overflowNow (e : DetectorEntry) (s : State) : State :=
  let t := { s with sgd := { s.sgd with groups := overflowGroup e s.sgd.groups } }
  if e.action = .cut then raise .guardCut e.group.val t else t

/-- TRIP: the debounce count of a detector reaches D (R99, R100). A detector that is disabled keeps no
count, so nothing happens to it. -/
def tripDetector (i : Fin 24) (s : State) : State :=
  let d := s.sgd.detectors.get i
  if d.entry.enable then
    let after := { d with debounce := d.entry.debounceWindows }.takeTrip
    let t := { s with sgd := { s.sgd with detectors := s.sgd.detectors.put i after.1 } }
    if after.2 then overflowNow d.entry t else t
  else s

/-- FORGIVENESS_EXPIRY: the forgiveness timer of a detector reaches its limit (R101). A disabled detector's
timer stays at 0. -/
def forgiveDetector (i : Fin 24) (s : State) : State :=
  let d := s.sgd.detectors.get i
  if d.entry.enable then
    { s with sgd := { s.sgd with detectors := s.sgd.detectors.put i d.forgiven } }
  else s

/-- RECOVERY_EXPIRY: the recovery timer of a group reaches its limit (R108). -/
def recoverGroup (i : Fin 8) (s : State) : State :=
  { s with sgd := { s.sgd with groups := s.sgd.groups.edit i Group.recover } }

/-! ### GUARD-CLEAR -/

/-- GUARD-CLEAR: its masks join the pending clear (R110). -/
def takeGuardClear (args : List Word) (s : State) : Verdict :=
  accept { s with sgd := { s.sgd with
    clearDetectors := s.sgd.clearDetectors ||| argAt args 0
    clearGroups := s.sgd.clearGroups ||| BitVec.ofNat 8 (field (argAt args 1) 7 0) } }

end Sys2Proof.Machine
end

