-- ==== Sys2Proof/Machine/Survey.lean ====
section
/-! DEFINITION. The Survey Unit (10_level_and_decay_survey.md): its window start and window end, the finishes
with their RESULTS entries, and SURVEY-START and SURVEY-STOP. -/

namespace Sys2Proof.Machine

/-! ### The commands -/

/-- Whether a group G fits a mode (R194). -/
def groupFits (m : SurveyMode) (g : Nat) : Bool :=
  match m with
  | .levelSingle => g == 1
  | .levelRepeat => g == 1
  | .decay => g == 1
  | .levelSweep => g == 2 || g == 4 || g == 8 || g == 16
  | .levelRepeatSweep => g == 2 || g == 4 || g == 8 || g == 16

/-- The configuration that the arguments of SURVEY-START spell, if it is acceptable (R194). -/
def surveyConfigOf (args : List Word) : Option SurveyConfig :=
  match argMode (argAt args 0), argTrigger (argAt args 0) with
  | some mode, some trigger =>
    let c : SurveyConfig :=
      { mode := mode, start := field (argAt args 1) 6 0, group := field (argAt args 1) 20 16,
        exponent := field (argAt args 0) 12 8, trigger := trigger }
    if (mode = .decay ∧ trigger = .now) ∨ c.exponent < 6 ∨ 18 < c.exponent ∨ ¬groupFits mode c.group ∨
        87 < c.start ∨ 87 < c.start + c.group - 1 then none
    else some c
  | some _, none => none
  | none, _ => none

/-- The measurement's sums and times emptied, as a start coming into force has it (R197). That the channel position,
the counter, the sum, the peak, the reference and the times are 0 or absent already at SURVEY-START and SURVEY-STOP,
where R195 and R196 say that the measurement is abandoned, is the model's choice (DESIGN CHOICE; notes:
assumption 17). -/
def Svu.emptied (v : Svu) : Svu :=
  { v with position := 0, counter := 0, sum := 0, peak := 0, reference := none, t20 := none, t30 := none }

/-- SURVEY-START (R194, R195). -/
def takeSurveyStart (args : List Word) (s : State) : Verdict :=
  match surveyConfigOf args with
  | none => refuse .range s
  | some c =>
    accept { s with svu := { s.svu.emptied with
      state := .waiting, config := none, startPending := some c, triggerPending := false } }

/-- SURVEY-STOP (R196). -/
def takeSurveyStop (_args : List Word) (s : State) : Verdict :=
  accept { s with svu := { s.svu.emptied with
    state := .idle, config := none, startPending := none, triggerPending := false } }

/-! ### Window start -/

/-- The Survey Unit's RESTART values (R204 and the state table of the chapter). -/
def Svu.restarted (v : Svu) : Svu :=
  { v.emptied with
    state := .idle, config := none, startPending := none, triggerPending := false, envelope := 0 }

/-- A pending configuration comes into force (R197, step 2). -/
def Svu.takeConfig (v : Svu) : Svu :=
  match v.startPending with
  | none => v
  | some c =>
    { v.emptied with
      config := some c, startPending := none, envelope := 0,
      triggerPending := v.triggerPending || c.trigger == .now }

/-- A measurement begins (R197, step 3); in DECAY its reference is lev(E) (R203). -/
def Svu.begin (v : Svu) : Svu :=
  let w := { v with state := .measuring, triggerPending := false, position := 0, counter := 0, sum := 0, peak := 0 }
  match v.config with
  | some c =>
    if c.mode = .decay then { w with reference := some (lev v.envelope), t20 := none, t30 := none } else w
  | none => w

/-- The Survey Unit's window start (R197). -/
def Svu.windowStart (v : Svu) (restart : Bool) : Svu :=
  let w := (if restart then v.restarted else v).takeConfig
  if w.triggerPending && w.state ≠ .idle then w.begin else w

/-! ### RESULTS entries -/

/-- The next value of the sequence counter (R200). -/
def Svu.nextSequence (v : Svu) : Nat := (v.sequence + 1) % 256

/-- A LEVEL entry (R200, R210). -/
def levelEntry (level : Int) (sequence channel peak : Nat) : Triple :=
  ⟨placed 22 2 1 ||| placedSigned 12 10 level ||| placed 0 8 sequence, placed 16 7 channel, placed 0 24 peak⟩

/-- A DECAY entry (R203, R210). -/
def decayEntry (reference : Int) (sequence channel t20 t30 : Nat) : Triple :=
  ⟨placed 22 2 2 ||| placedSigned 12 10 reference ||| placed 0 8 sequence,
   placed 16 7 channel ||| placed 0 16 t20, placed 0 16 t30⟩

/-- An entry written whole into RESULTS (R200). -/
def putResult (i : Nat) (e : Triple) (s : State) : State :=
  { s with tables := { s.tables with results := s.tables.results.put (Fin.ofNat 16 i) e } }

/-! ### Finishes -/

/-- The mode is a sweep (R199, R201). -/
def SurveyMode.sweeps : SurveyMode → Bool
  | .levelSweep => true
  | .levelRepeatSweep => true
  | .levelSingle => false
  | .levelRepeat => false
  | .decay => false

/-- The channel being measured: start + j for a sweep, and the start channel otherwise (R199). -/
def surveyChannel (c : SurveyConfig) (position : Nat) : Nat :=
  if c.mode.sweeps then c.start + position else c.start

/-- The next measurement begins at once, on a channel position (R201). -/
def Svu.again (v : Svu) (position : Nat) : Svu :=
  { v with position := position, counter := 0, sum := 0, peak := 0 }

/-- The survey rests after its last measurement: IDLE with trigger NOW, WAITING otherwise (R201). -/
def Svu.rest (v : Svu) (c : SurveyConfig) : Svu :=
  if c.trigger = .now then { v with state := .idle, config := none } else { v with state := .waiting }

/-- How a survey goes on after a level entry (R201). -/
def Svu.afterLevel (v : Svu) (c : SurveyConfig) : Svu :=
  match c.mode with
  | .levelSingle => v.rest c
  | .levelRepeat => v.again 0
  | .levelSweep => if v.position + 1 < c.group then v.again (v.position + 1) else v.rest c
  | .levelRepeatSweep => v.again ((v.position + 1) % c.group)
  | .decay => v

/-- A level measurement finishes (R199 to R201). -/
def finishLevel (c : SurveyConfig) (s : State) : State :=
  let v := { s.svu with sequence := s.svu.nextSequence }
  let e := levelEntry (lev (v.sum / 2 ^ c.exponent)) v.sequence (surveyChannel c v.position) v.peak
  putResult (if c.mode.sweeps then v.position else 0) e { s with svu := v.afterLevel c }

/-- A decay measurement finishes: a time still absent is stored as 65535 (R203). -/
def finishDecay (c : SurveyConfig) (s : State) : State :=
  let v := { s.svu with sequence := s.svu.nextSequence }
  let t20 := v.t20.getD 65535
  let t30 := v.t30.getD 65535
  putResult 0 (decayEntry (v.reference.getD 0) v.sequence c.start t20 t30)
    { s with svu := { v with state := .waiting, t20 := some t20, t30 := some t30 } }

/-! ### Window end -/

/-- The samples of a window by survey channel (R193). -/
structure Channels where
  /-- Channels 0..23: conditioned samples. -/
  inputs : Regs Sample 24
  /-- Channels 24..39: bus samples. -/
  buses : Regs Sample 16
  /-- Channels 40..87: output samples. -/
  outputs : Regs Sample 48
  deriving DecidableEq, Repr

/-- The sample of a survey channel (R193). -/
def Channels.sample (x : Channels) (channel : Nat) : Sample :=
  if channel < 24 then x.inputs.get (Fin.ofNat 24 channel)
  else if channel < 40 then x.buses.get (Fin.ofNat 16 (channel - 24))
  else x.outputs.get (Fin.ofNat 48 (channel - 40))

/-- One window added to a level measurement (R199). -/
def Svu.addLevel (v : Svu) (x : Sample) : Svu :=
  { v with sum := v.sum + energy x, peak := max v.peak x.toInt.natAbs, counter := v.counter + 1 }

/-- A time reached now, if it was absent and the level has fallen far enough below the reference (R203). -/
def reachTime (time : Option Nat) (count : Nat) (level reference fall : Int) : Option Nat :=
  match time with
  | some t => some t
  | none => if level ≤ reference - fall then some (min count 65535) else none

/-- One window added to a decay measurement, after its envelope has been updated (R203). -/
def Svu.addDecay (v : Svu) : Svu :=
  let count := v.counter + 1
  let reference := v.reference.getD 0
  { v with
    counter := count
    t20 := reachTime v.t20 count (lev v.envelope) reference 80
    t30 := reachTime v.t30 count (lev v.envelope) reference 120 }

/-- The survey envelope updated with a sample (R202). -/
def Svu.follow (v : Svu) (x : Sample) : Svu := { v with envelope := trackEnvelope v.envelope (energy x) 64 }

/-- The Survey Unit's window end (R199 to R203). While a start is pending no measurement runs. -/
def surveyWindowEnd (x : Channels) (s : State) : State :=
  match s.svu.startPending, s.svu.config with
  | some _, _ => s
  | none, none => s
  | none, some c =>
    if c.mode = .decay then
      match s.svu.state with
      | .idle => s
      | .waiting => { s with svu := s.svu.follow (x.sample c.start) }
      | .measuring =>
        let v := (s.svu.follow (x.sample c.start)).addDecay
        if v.t30.isSome || v.counter = 2 ^ c.exponent then finishDecay c { s with svu := v }
        else { s with svu := v }
    else
      match s.svu.state with
      | .idle => s
      | .waiting => s
      | .measuring =>
        let v := s.svu.addLevel (x.sample (surveyChannel c s.svu.position))
        if v.counter = 2 ^ c.exponent then finishLevel c { s with svu := v } else { s with svu := v }

/-! ### The events on their own -/

/-- LEVEL_FINISH: the level measurement that runs finishes (R200, R201). Where none runs nothing
finishes. -/
def levelFinishNow (s : State) : State :=
  match s.svu.state, s.svu.config with
  | .measuring, some c => if c.mode = .decay then s else finishLevel c s
  | .measuring, none => s
  | .idle, _ => s
  | .waiting, _ => s

/-- DECAY_FINISH: the decay measurement that runs finishes (R203). Where none runs nothing finishes. -/
def decayFinishNow (s : State) : State :=
  match s.svu.state, s.svu.config with
  | .measuring, some c => if c.mode = .decay then finishDecay c s else s
  | .measuring, none => s
  | .idle, _ => s
  | .waiting, _ => s

end Sys2Proof.Machine
end

