-- ==== Sys2Proof/Machine/Stages.lean ====
section
/-! DEFINITION. The Input/Output Stages (06_input_and_output_stages.md): entries into force, conditioning an
input, finishing an output, the trims, and the output queue. -/

namespace Sys2Proof.Machine

/-! ### Window start -/

/-- The stored INPUTS and OUTPUTS entries taken into force (R118); at RESTART every applied index becomes its
target in force (R122). -/
def Ios.windowStart (i : Ios) (restart : Bool) (t : Tables) : Ios :=
  { i with
    inputs := t.inputs.map inputOf
    outputs := t.outputs.map outputOf
    inApplied := if restart then t.inputs.map fun w => (inputOf w).trim else i.inApplied
    outApplied := if restart then t.outputs.map fun w => (outputOf w).trim else i.outApplied }

/-- The raw sample of a channel (R119). In LOCKED the held input frame is that of the good frame that opened
the window (R144), so it serves LOCKED and FLYWHEEL alike. -/
def rawSample (lock : LockState) (frame : Regs Sample 128) (slot : Option (Fin 128)) : Sample :=
  match slot, lock with
  | none, _ => 0#24
  | some k, .locked => frame.get k
  | some k, .flywheel => frame.get k
  | some _, .searching => 0#24
  | some _, .acquiring => 0#24

/-- A sample negated when invert is on; −8,388,608 becomes 8,388,607 (R120). -/
def invertSample (invert : Bool) (x : Int) : Int :=
  if invert then (if x = -8388608 then 8388607 else -x) else x

/-- The conditioned sample: inverted if asked, and scaled by the applied index (R120, R121). -/
def conditionSample (e : InputEntry) (applied : Nat) (raw : Sample) : Sample :=
  BitVec.ofInt 24 (attenuate (invertSample e.invert raw.toInt) applied)

/-- Every input channel conditioned for the window (R119 to R121). -/
def conditionInputs (s : State) : State :=
  { s with ios := { s.ios with
      conditioned := Regs.zip
        (fun e a => conditionSample e a (rawSample s.rrx.lock s.rrx.heldFrame e.slot))
        s.ios.inputs s.ios.inApplied } }

/-! ### Window end -/

/-- An output accumulator rounded and trimmed, before it is saturated (R123, R124). -/
def trimOutput (a : Accumulator) (applied : Nat) : Int := attenuate (roundAccumulator a) applied

/-- The finished sample of an output (R124). -/
def finishOutput (a : Accumulator) (applied : Nat) : Sample :=
  BitVec.ofInt 24 (clampSample (trimOutput a applied))

/-- The number of true entries. -/
def countTrue (l : List Bool) : Nat := (l.filter id).length

/-- The 48 output samples of a window (R124). -/
def outputSamples (s : State) : Regs Sample 48 := Regs.zip finishOutput s.tpe.outs s.ios.outApplied

/-- The outputs saturated in a window (R124). -/
def outputClips (s : State) : Nat :=
  countTrue (Regs.zip (fun a b => clips (trimOutput a b)) s.tpe.outs s.ios.outApplied).cells

/-- The outputs finished and counted, their entry appended to the output queue, and every trim moved one step
(R122, R124, R126). -/
def finishOutputs (s : State) : State :=
  { s with ios := { s.ios with
      outClips := saturate s.ios.outClips (outputClips s)
      queue := s.ios.queue ++ [Regs.zip (fun e x => ⟨e.slot, x⟩) s.ios.outputs (outputSamples s)]
      inApplied := Regs.zip (fun a e => stepToward a e.trim) s.ios.inApplied s.ios.inputs
      outApplied := Regs.zip (fun a e => stepToward a e.trim) s.ios.outApplied s.ios.outputs } }

/-! ### The frame -/

/-- The slots of a frame that carries a queue entry: of the outputs that name one slot the highest-numbered is
placed, and a slot that none names keeps its pass-through sample (R127). -/
def placeEntry (e : QueueEntry) (slots : Regs Sample 128) : Regs Sample 128 :=
  e.cells.foldl (fun sl p => match p.slot with | some k => sl.put k p.sample | none => sl) slots

end Sys2Proof.Machine
end

