-- ==== Sys2Proof/Machine/Taps.lean ====
section
/-! DEFINITION. The Tap Engine and the stages of a window in the Delay Memory Controller: effective delay,
reads, service, coefficient and accumulation of each tap (01_tap_processing_and_modulation.md), and stages 1
to 5 (03_the_memory_window.md, R56 to R62). -/

namespace Sys2Proof.Machine

/-! ### Modulation -/

/-- The triangle value T of a phase (R7). -/
def triangle (phase : Nat) : Int :=
  if phase < 524288 then 2 * (phase : Int) - 524288 else 1572864 - 2 * (phase : Int)

/-- The modulation offset of a depth at a phase (R7). -/
def offset (depth phase : Nat) : Int := (depth : Int) * triangle phase / 524288

/-- The offset of a tap: 0 when its generator is NONE (R7). -/
def tapOffset (mods : Regs Triple 32) (phases : Regs (BitVec 20) 32) (generator : Nat) : Int :=
  if generator < 32 then
    offset (depthOf (mods.get (Fin.ofNat 32 generator))) (phases.get (Fin.ofNat 32 generator)).toNat
  else 0

/-- A phase advanced by a rate (R8). -/
def advancePhase (phase : BitVec 20) (rate : Nat) : BitVec 20 := phase + BitVec.ofNat 20 rate

/-! ### One tap -/

/-- d_min: 0 for input lines, 256 for bus lines (R12). -/
def minDelay (line : Nat) : Int := if line < 24 then 0 else 256

/-- The effective delay, clamped to the line (R12). -/
def effectiveDelay (t : Tap) (length : Nat) (o : Int) : Nat :=
  (max (minDelay t.source)
    (min (256 * (t.delay : Int) + (t.fraction : Int) + o) (256 * ((length : Int) - 2)))).toNat

/-- The validity of a read at an integer delay (R14, R40). -/
def readValid (line delay fill : Nat) : Bool := if line < 24 then delay < fill else delay ≤ fill

/-- The reads of one tap: the addresses of x0 and x1 where they are requested and valid, and f. -/
structure TapReads where
  /-- Address of x0, if its read is valid. -/
  x0 : Option Nat
  /-- Address of x1, if it is requested and its read is valid. -/
  x1 : Option Nat
  /-- The fraction f. -/
  fraction : Nat
  deriving DecidableEq, Repr

/-- The valid reads, x0 first (R14). -/
def TapReads.addresses (r : TapReads) : List Nat := r.x0.toList ++ r.x1.toList

/-- The reads of a tap on an enabled line at an effective delay (R13, R14). -/
def readsAt (line : Nat) (l : Line) (d : Nat) : TapReads :=
  let di := d / 256
  let f := d % 256
  { x0 := if readValid line di l.fill then some (l.readAddress di) else none
    x1 := if f ≠ 0 && readValid line (di + 1) l.fill then some (l.readAddress (di + 1)) else none
    fraction := f }

/-- The reads of a tap; a silent tap presents none (R11). -/
def tapReads (s : State) (t : Tap) : TapReads :=
  if t.source < 40 then
    let l := s.lines.get (Fin.ofNat 40 t.source)
    if l.rows = 0 then ⟨none, none, 0⟩
    else readsAt t.source l
      (effectiveDelay t l.length (tapOffset (activeBank s).mods s.tpe.phases t.generator))
  else ⟨none, none, 0⟩

/-- The interpolated value of a tap: 0 stands for a sample that is not read (R14, R16). -/
def interpolate (x0 x1 : Int) (f : Nat) : Int := (x0 * (256 - (f : Int)) + x1 * (f : Int)) / 256

/-- The sample of a read, 0 where there is none (R14). -/
def sampleOf (m : Memory) (lapse : Lapse) : Option Nat → Int
  | none => 0
  | some a => (readSample m lapse a).toInt

/-- The value of a served tap (R16). -/
def TapReads.value (r : TapReads) (m : Memory) (lapse : Lapse) : Sample :=
  BitVec.ofInt 24 (interpolate (sampleOf m lapse r.x0) (sampleOf m lapse r.x1) r.fraction)

/-- The guard-scaled gain c1 (R19). -/
def guardedGain (gain : Int) (group : Nat) (groups : Regs Group 8) : Int :=
  if group < 8 then attenuate gain (groups.get (Fin.ofNat 8 group)).applied else gain

/-- The combined coefficient c = floor(c1 × r / 1024) (R20). -/
def coefficient (t : Tap) (groups : Regs Group 8) (r : Nat) : Int :=
  guardedGain t.gain t.group groups * (r : Int) / 1024

/-! ### The tap pass -/

/-- What the tap pass carries from one tap to the next (R4, R61). -/
structure Pass where
  /-- Open row and previous direction. -/
  row : RowState
  /-- Remaining allowance. -/
  remaining : Nat
  /-- Units spent by the served taps. -/
  spent : Nat
  /-- Shedding has begun. -/
  shedding : Bool
  /-- Taps shed so far. -/
  shed : Nat
  /-- Held values. -/
  held : Regs Sample 1024
  /-- Output accumulators. -/
  outs : Regs Accumulator 48
  /-- Bus accumulators. -/
  buses : Regs Accumulator 16
  deriving DecidableEq, Repr

/-- A product added to an accumulator (R22). -/
def accumulate (a : Accumulator) (p : Int) : Accumulator := BitVec.ofInt 50 (a.toInt + p)

/-- A product added to the destination a code names: 0..47 an output, 48..63 a bus (R5, R22). -/
def Pass.addTo (p : Pass) (destination : Nat) (product : Int) : Pass :=
  if destination < 48 then
    { p with outs := p.outs.edit (Fin.ofNat 48 destination) fun a => accumulate a product }
  else { p with buses := p.buses.edit (Fin.ofNat 16 (destination - 48)) fun a => accumulate a product }

/-- A tap served: its reads are made and its value held (R17, R61). -/
def Pass.serve (p : Pass) (i : Fin 1024) (cost : Nat) (row : RowState) (v : Sample) : Pass :=
  { p with row := row, remaining := p.remaining - cost, spent := p.spent + cost, held := p.held.put i v }

/-- A tap shed: it makes no access, and its held value stays (R17, R61). -/
def Pass.shedOne (p : Pass) : Pass := { p with shedding := true, shed := p.shed + 1 }

/-- One tap carried through whole, with the parameters of the window in `s` (R4, R11 to R22, R60, R61). -/
def Pass.tap (s : State) (p : Pass) (i : Fin 1024) : Pass :=
  let t := tapOf ((activeBank s).taps.get i)
  let reads := tapReads s t
  let cost := s.dmc.timing.runCost .read p.row reads.addresses
  let c := coefficient t s.sgd.groups (rampFactor s)
  if !p.shedding && cost.1 ≤ p.remaining then
    let v := reads.value s.memory s.lapse
    (p.serve i cost.1 cost.2 v).addTo t.destination (v.toInt * c)
  else p.shedOne.addTo t.destination ((p.held.get i).toInt * c)

/-- The number of bus lines enabled in force (R59). -/
def enabledBuses (lines : Regs Line 40) : Nat :=
  countTrue ((List.finRange 40).map fun i => 24 ≤ i.val && (lines.get i).rows ≠ 0)

/-- The tap allowance AL = FB − spend − reserve (R59). -/
def tapAllowance (s : State) : Nat :=
  s.dmc.timing.budget - s.dmc.spend - s.dmc.timing.reserve (enabledBuses s.lines)

/-- The pass before its first tap: accumulators 0, the whole allowance, no shedding (R3, R61). -/
def Pass.first (s : State) : Pass :=
  { row := s.dmc.rowState, remaining := tapAllowance s, spent := 0, shedding := false, shed := 0,
    held := s.tpe.held, outs := Regs.fill 48 0#50, buses := Regs.fill 16 0#50 }

/-- The indices of the processed taps, in ascending order (R4). -/
def processedTaps (s : State) : List (Fin 1024) :=
  (List.range (tapCount (activeBank s).header)).map (Fin.ofNat 1024)

/-- The whole tap pass of a window (R4). -/
def runTaps (s : State) : Pass := (processedTaps s).foldl (Pass.tap s) (Pass.first s)

/-- Stages 3 and 4: what the tap pass leaves (R59 to R61). -/
def tapStage (p : Pass) (s : State) : State :=
  { s with
    tpe := { s.tpe with held := p.held, outs := p.outs, buses := p.buses }
    dmc := { s.dmc with
      openRow := p.row.openRow, direction := p.row.direction, spend := s.dmc.spend + p.spent } }

/-- The end of stage 4: the window's shed count enters the statistics, and a window that sheds sets the shed
note (R64). -/
def recordShed (shed : Nat) (s : State) : State :=
  { s with
    dmc := { s.dmc with
      shedLast := shed, shedWorst := max s.dmc.shedWorst shed
      shedWindows := if 0 < shed then saturate s.dmc.shedWindows 1 else s.dmc.shedWindows }
    cmu := { s.cmu with shedNote := s.cmu.shedNote || 0 < shed } }

/-! ### The other stages -/

/-- Stage 1: up to two pending refreshes are served, and a refresh keeps the whole delay memory (R55, R57). -/
def refreshStage (s : State) : State :=
  let k := min s.dmc.pendingRefresh 2
  { s with
    dmc := { s.dmc with
      spend := s.dmc.spend + k * s.dmc.timing.refreshCost
      pendingRefresh := s.dmc.pendingRefresh - k
      openRow := if k = 0 then s.dmc.openRow else none
      direction := if k = 0 then s.dmc.direction else none }
    lapse := if k = 0 then s.lapse else s.lapse.refreshed }

/-- The write of one input line: at position (wp + 1) mod len, where wp then stands (R37, R58). -/
def inputWrite (s : State) (i : Fin 24) : State :=
  let k : Fin 40 := Fin.ofNat 40 i.val
  let l := s.lines.get k
  if l.rows = 0 then s
  else
    let q := (l.wp + 1) % l.length
    let t := writeLine l q (s.ios.conditioned.get i) s
    { t with lines := s.lines.put k { l with wp := q, fill := min (l.fill + 1) l.length } }

/-- Stage 2: every enabled input line, in line order (R58). -/
def inputStage (s : State) : State := (List.finRange 24).foldl inputWrite s

/-- The write of one bus line: at position wp, which then advances (R38, R62). -/
def busWrite (samples : Regs Sample 16) (s : State) (b : Fin 16) : State :=
  let k : Fin 40 := Fin.ofNat 40 (24 + b.val)
  let l := s.lines.get k
  if l.rows = 0 then s
  else
    let t := writeLine l l.wp (samples.get b) s
    { t with lines := s.lines.put k { l with wp := (l.wp + 1) % l.length, fill := min (l.fill + 1) l.length } }

/-- The buses a clear reaches before their write at this window end: where a swap under CLEAR comes at the same
window end either may be first, line by line (R42, R62). -/
def clearedFirst (s : State) (b : Fin 16) : Bool :=
  swapClearsHere s && Config.raceChoice (s.draws + b.val)

/-- Stage 5: every enabled bus line, in line order, but for the lines a clear reaches first (R62). -/
def busStage (samples : Regs Sample 16) (s : State) : State :=
  let written := (List.finRange 16).filter fun b => !clearedFirst s b
  let t := written.foldl (busWrite samples) s
  if swapClearsHere s then { t with draws := t.draws + 16 } else t

/-! ### Window end at the Tap Engine -/

/-- A bus accumulator finished to a bus sample (R25, R26). -/
def finishBus (a : Accumulator) : Sample := BitVec.ofInt 24 (clampSample (roundAccumulator a))

/-- The bus samples of a window (R25 to R27). -/
def busSamples (s : State) : Regs Sample 16 := s.tpe.buses.map finishBus

/-- The buses clipped in a window, in ascending number (R26). -/
def clippedBuses (s : State) : List (Fin 16) :=
  (List.finRange 16).filter fun b => clips (roundAccumulator (s.tpe.buses.get b))

/-- The bus clips counted (R26) and the 32 phases advanced by the active bank's rates (R8). -/
def tapWindowEnd (s : State) : State :=
  { s with tpe := { s.tpe with
      busClips := saturate s.tpe.busClips (clippedBuses s).length
      phases := Regs.zip (fun phase e => advancePhase phase (rateOf e)) s.tpe.phases (activeBank s).mods } }

end Sys2Proof.Machine
end

