-- ==== Sys2Proof/Machine/Store.lean ====
section
/-! DEFINITION. The Table Store: READ and WRITE, with every owner's validation of its entries
(09_scene_banks_and_the_table_loader.md, R176 to R184; R33, R49, R93, R117, R134). -/

namespace Sys2Proof.Machine

/-! ### Entries by table id and index -/

/-- The words of an entry of two words. -/
def Pair.words (p : Pair) : List Word := [p.w0, p.w1]

/-- The words of an entry of three words. -/
def Triple.words (t : Triple) : List Word := [t.w0, t.w1, t.w2]

/-- An entry of two words from a run of words. -/
def pairOf (ws : List Word) : Pair := ⟨ws.getD 0 0#24, ws.getD 1 0#24⟩

/-- An entry of three words from a run of words. -/
def tripleOf (ws : List Word) : Triple := ⟨ws.getD 0 0#24, ws.getD 1 0#24, ws.getD 2 0#24⟩

/-- The stored words of entry `i` of the table with an id; `n` names the bank for ids 0..2 (R181, R209). The
index lies inside the table wherever this is used. -/
def Tables.entryWords (t : Tables) (n : BankName) : Nat → Nat → List Word
  | 0, _ => (t.bank n).header.words
  | 1, i => ((t.bank n).taps.get (Fin.ofNat 1024 i)).words
  | 2, i => ((t.bank n).mods.get (Fin.ofNat 32 i)).words
  | 3, i => [t.inputs.get (Fin.ofNat 24 i)]
  | 4, i => [t.outputs.get (Fin.ofNat 48 i)]
  | 5, i => [t.lines.get (Fin.ofNat 40 i)]
  | 6, i => (t.detectors.get (Fin.ofNat 24 i)).words
  | 7, i => [t.groups.get (Fin.ofNat 8 i)]
  | 8, _ => t.timing.words
  | 9, _ => [t.ringset]
  | 10, i => (t.results.get (Fin.ofNat 16 i)).words
  | _, _ => []

/-- A scene bank with an entry stored (R176, R209). -/
def SceneBank.store (b : SceneBank) (table : BankTable) (i : Nat) (e : Triple) : SceneBank :=
  match table with
  | .header => { b with header := e }
  | .taps => { b with taps := b.taps.put (Fin.ofNat 1024 i) e }
  | .mods => { b with mods := b.mods.put (Fin.ofNat 32 i) e }

/-- The tables with entry `i` of the table with an id stored as the given words (R209). RESULTS is written by
the Survey Unit alone. -/
def Tables.storeEntry (t : Tables) (n : BankName) : Nat → Nat → List Word → Tables
  | 0, i, ws => t.putBank n ((t.bank n).store .header i (tripleOf ws))
  | 1, i, ws => t.putBank n ((t.bank n).store .taps i (tripleOf ws))
  | 2, i, ws => t.putBank n ((t.bank n).store .mods i (tripleOf ws))
  | 3, i, ws => { t with inputs := t.inputs.put (Fin.ofNat 24 i) (ws.getD 0 0#24) }
  | 4, i, ws => { t with outputs := t.outputs.put (Fin.ofNat 48 i) (ws.getD 0 0#24) }
  | 5, i, ws => { t with lines := t.lines.put (Fin.ofNat 40 i) (ws.getD 0 0#24) }
  | 6, i, ws => { t with detectors := t.detectors.put (Fin.ofNat 24 i) (pairOf ws) }
  | 7, i, ws => { t with groups := t.groups.put (Fin.ofNat 8 i) (ws.getD 0 0#24) }
  | 8, _, ws => { t with timing := pairOf ws }
  | 9, _, ws => { t with ringset := ws.getD 0 0#24 }
  | _, _, _ => t

/-- The bank a selector names (R179). -/
def selectedBank (s : State) (shadow : Bool) : BankName := if shadow then shadowName s else s.scc.active

/-! ### READ -/

/-- The stored words of a run of entries, in ascending index (R182). -/
def readWords (t : Tables) (n : BankName) (id start count : Nat) : List Word :=
  (List.range count).flatMap fun j => t.entryWords n id (start + j)

/-- READ (R182). -/
def takeRead (args : List Word) (s : State) : Verdict :=
  let a := argAt args 0
  let count := argCount (argAt args 1)
  match tableEntries (argTable a) with
  | none => refuse .range s
  | some entries =>
    if count = 0 ∨ 1024 < count ∨ entries < argStart a + count then refuse .range s
    else if 62 < count * tableWidth (argTable a) then refuse .range s
    else
      ⟨s, .ok, readWords s.tables (selectedBank s (argShadow a)) (argTable a) (argStart a) count⟩

/-! ### Validation -/

/-- Two enabled regions share at least one row (R33). -/
def regionsMeet (a b : Word) : Bool :=
  rowsOf a ≠ 0 && rowsOf b ≠ 0 && baseOf a < baseOf b + rowsOf b && baseOf b < baseOf a + rowsOf a

/-- LINES entry `i` of the resulting table is bad, when entries `start` to `start + n − 1` are written
(R33). -/
def badLine (lines : Regs Word 40) (start n : Nat) (i : Fin 40) : Bool :=
  let w := lines.get i
  128 < rowsOf w || 4096 < baseOf w + rowsOf w ||
    (List.finRange 40).any fun j =>
      j ≠ i && regionsMeet w (lines.get j) && (j.val < start || start + n ≤ j.val || j.val < i.val)

/-- A DETECTORS entry is bad (R93). -/
def badDetector (e : DetectorEntry) : Bool :=
  e.enable && (e.action == .unassigned || 96 < e.threshold || e.forgiveness == 0)

/-- A GROUPS entry is bad (R93). -/
def badGroup (e : GroupEntry) : Bool := e.step == 0 || 12 < e.step || 60 < e.floor || e.recovery == 0

/-- A RINGSET entry is bad (R134). -/
def badRing (r : RingRecord) : Bool := r.tolerance == 0 || r.acquire < 4

/-- Entry `i` of a system table is bad in the resulting table, when entries `start` to `start + n − 1` are
written (R183, step 6). -/
def badEntry (t : Tables) (start n : Nat) : Nat → Nat → Bool
  | 3, i => 61 < (inputOf (t.inputs.get (Fin.ofNat 24 i))).trim
  | 4, i => 61 < (outputOf (t.outputs.get (Fin.ofNat 48 i))).trim
  | 5, i => badLine t.lines start n (Fin.ofNat 40 i)
  | 6, i => badDetector (detectorOf (t.detectors.get (Fin.ofNat 24 i)))
  | 7, i => badGroup (groupOf (t.groups.get (Fin.ofNat 8 i)))
  | 8, _ => !(timingOf t.timing).acceptable
  | 9, _ => badRing (ringOf t.ringset)
  | _, _ => false

/-! ### WRITE -/

/-- A run of entry words cut into entries of a width (R183). -/
def entriesOf (width : Nat) (ws : List Word) : List (List Word) :=
  (List.range (ws.length / width)).map fun j => (ws.drop (j * width)).take width

/-- The resulting table: every entry put in place, in ascending index (R33, R184). -/
def Tables.storeRun (t : Tables) (n : BankName) (id start : Nat) (entries : List (List Word)) : Tables :=
  (entries.zipIdx start).foldl (fun u e => u.storeEntry n id e.2 e.1) t

/-- A refusal with RANGE and an index as its data word (R165). -/
def refuseAt (i : Nat) (s : State) : Verdict := ⟨s, .range, [BitVec.ofNat 24 i]⟩

/-- WRITE (R183, R184). -/
def takeWrite (args : List Word) (s : State) : Verdict :=
  let a := argAt args 0
  let id := argTable a
  let start := argStart a
  let entries := entriesOf (tableWidth id) args.tail
  let size := (tableEntries id).getD 0
  let result := s.tables.storeRun (shadowName s) id start entries
  if 10 ≤ id then refuseAt start s
  else if id ≤ 2 ∧ ¬argShadow a then refuse .state s
  else if id ≤ 2 ∧ s.scc.shadowLocked then refuse .busy s
  else if id ≤ 2 ∧ s.tld.isOpen then refuse .busy s
  else if size < start + entries.length then refuseAt (max start size) s
  else
    match (List.range entries.length).find? fun j => badEntry result start entries.length id (start + j) with
    | some j => refuseAt (start + j) s
    | none => accept { s with tables := result }

end Sys2Proof.Machine
end

