-- ==== Sys2Proof/Machine/Loader.lean ====
section
/-! DEFINITION. The Table Loader (09_scene_banks_and_the_table_loader.md, R185 to R191): LOAD-OPEN,
LOAD-DATA, LOAD-CLOSE and the idle timer. -/

namespace Sys2Proof.Machine

/-- The loader CLOSED: no partial entry, R 0, the idle timer stopped (R187, R190, R191). -/
def Tld.closed (l : Tld) : Tld :=
  { l with isOpen := false, remaining := 0, partialWords := [], idle := none }

/-- The run of a load leaves its table (R186). -/
def runLeaves (direction : Direction) (start count entries : Nat) : Bool :=
  match direction with
  | .ascending => entries < start + count
  | .fill => entries < start + count
  | .descending => entries ≤ start || start + 1 < count

/-- LOAD-OPEN (R186). -/
def takeLoadOpen (args : List Word) (s : State) : Verdict :=
  let a := argAt args 0
  let b := argAt args 1
  let count := argCount b
  if s.tld.isOpen then refuse .state s
  else if ¬argShadow a then refuse .state s
  else if s.scc.shadowLocked then refuse .busy s
  else
    match bankTableOf (argTable a), argDirection b with
    | some table, some direction =>
      if argTimeout b = 0 ∨ count = 0 ∨ 1024 < count ∨
          runLeaves direction (argStart a) count ((tableEntries (argTable a)).getD 0) then
        refuse .range s
      else
        accept { s with tld :=
          { isOpen := true, bank := shadowName s, table := table, next := argStart a,
            remaining := count - 1, direction := direction, partialWords := [],
            timeout := argTimeout b, idle := some 0 } }
    | some _, none => refuse .range s
    | none, _ => refuse .range s

/-- A complete entry handled (R187, R188). -/
def completeEntry (e : Triple) (s : State) : State :=
  let l := s.tld
  let put := fun (t : Tables) (i : Nat) => t.putBank l.bank ((t.bank l.bank).store l.table i e)
  match l.direction with
  | .fill =>
    { s with
      tables := (List.range (l.remaining + 1)).foldl (fun t j => put t (l.next + j)) s.tables
      tld := l.closed }
  | .ascending =>
    { s with
      tables := put s.tables l.next
      tld := if l.remaining = 0 then l.closed
        else { l with remaining := l.remaining - 1, next := l.next + 1, partialWords := [] } }
  | .descending =>
    { s with
      tables := put s.tables l.next
      tld := if l.remaining = 0 then l.closed
        else { l with remaining := l.remaining - 1, next := l.next - 1, partialWords := [] } }

/-- A data word taken: appended to the partial entry, which is handled when it holds three words (R187). A
word that comes after the load has completed is discarded and not counted. -/
def loadWord (r : State × Nat) (w : Word) : State × Nat :=
  let s := r.1
  if s.tld.isOpen then
    let held := s.tld.partialWords ++ [w]
    if held.length < 3 then ({ s with tld := { s.tld with partialWords := held } }, r.2 + 1)
    else (completeEntry (tripleOf held) s, r.2 + 1)
  else r

/-- The reply data word of LOAD-DATA (R187, R208). -/
def loadDataWord (taken remaining : Nat) (completed : Bool) : Word :=
  placed 0 6 taken ||| placed 6 10 remaining ||| flagAt 16 completed

/-- LOAD-DATA (R187, R188). -/
def takeLoadData (args : List Word) (s : State) : Verdict :=
  if s.tld.isOpen then
    let r := args.foldl loadWord ({ s with tld := { s.tld with idle := some 0 } }, 0)
    ⟨r.1, .ok, [loadDataWord r.2 r.1.tld.remaining (!r.1.tld.isOpen)]⟩
  else refuse .state s

/-- The reply data word of LOAD-CLOSE (R190, R208). -/
def loadCloseWord (l : Tld) : Word :=
  if l.isOpen then placed 0 6 l.partialWords.length ||| placed 6 10 l.remaining ||| flagAt 16 true else 0#24

/-- LOAD-CLOSE (R190). -/
def takeLoadClose (_args : List Word) (s : State) : Verdict :=
  ⟨if s.tld.isOpen then { s with tld := s.tld.closed } else s, .ok, [loadCloseWord s.tld]⟩

/-- The idle timer expires: the load closes and LOAD_TIMEOUT is raised, with the outgoing frame number as
given (R191). -/
def expireLoad (number : BitVec 8) (s : State) : State :=
  raiseAt number .loadTimeout s.tld.table.id { s with tld := s.tld.closed }

/-- The idle timer reaches its limit at this window start (R185). -/
def idleReaches (l : Tld) : Bool :=
  match l.isOpen, l.idle with
  | true, some n => n + 1 = l.timeout * 1024
  | true, none => false
  | false, _ => false

/-- The idle timer has reached its limit, and its expiry is still to be taken (R185). -/
def idleDue (l : Tld) : Bool :=
  match l.isOpen, l.idle with
  | true, some n => n = l.timeout * 1024
  | true, none => false
  | false, _ => false

/-- The idle timer counts a window start (R185). -/
def Tld.countIdle (l : Tld) : Tld :=
  match l.isOpen, l.idle with
  | true, some n => { l with idle := some (n + 1) }
  | true, none => l
  | false, _ => l

/-- An expiry that is due is taken (R191). -/
def settleExpiry (s : State) : State := if idleDue s.tld then expireLoad s.rtx.number s else s

/-- LOAD_TIMEOUT: the loader's idle timer expires (R191). In CLOSED it is stopped, so nothing happens. -/
def loadTimeoutNow (s : State) : State := if s.tld.isOpen then expireLoad s.rtx.number s else s

end Sys2Proof.Machine
end

