-- ==== Sys2Proof/Machine/Flags.lean ====
section
/-! DEFINITION. What the part reports: the six notes of a reply header (R167, R207), the fault record word
(R208), the status record (R170, R211), and what a STATUS zeroes (R171). -/

namespace Sys2Proof.Machine

/-- At least one of the 24 overflow flags is set (R102). -/
def anyOverflow (g : Sgd) : Bool := g.detectors.cells.any Detector.flag

/-- The reply header (R165, R167, R207). -/
def replyHeader (s : State) (address : Fin 63) (status : Status) (code : Nat) : Word :=
  placed 18 6 address.val ||| placed 14 4 status.code ||| flagAt 13 s.tld.isOpen |||
    flagAt 12 (s.scc.scene ≠ .steady) ||| flagAt 11 s.cmu.shedNote ||| flagAt 10 (anyOverflow s.sgd) |||
    flagAt 9 s.cmu.fault.isSome ||| flagAt 8 s.cmu.overrun ||| placed 0 8 code

/-- The code of a fault kind (R208). -/
def FaultKind.code : FaultKind → Nat
  | .refreshOverrun => 0
  | .lockLost => 1
  | .guardCut => 2
  | .busClip => 3
  | .loadTimeout => 4

/-- The fault record word (R208). -/
def faultWord (c : Cmu) : Word :=
  match c.fault with
  | none => placed 12 8 c.laterCount
  | some f =>
    placed 23 1 1 ||| placed 20 3 f.kind.code ||| placed 12 8 c.laterCount ||| placed 4 8 f.number.toNat |||
      placed 0 4 f.detail

/-- The code of a lock state (R211). -/
def LockState.code : LockState → Nat
  | .searching => 0
  | .acquiring => 1
  | .locked => 2
  | .flywheel => 3

/-- The code of a scene state (R211). -/
def SceneState.code : SceneState → Nat
  | .steady => 0
  | .armed => 1
  | .fadeOut => 2
  | .held => 3
  | .fadeIn => 4

/-- The code of a survey state (R211). -/
def SurveyState.code : SurveyState → Nat
  | .idle => 0
  | .waiting => 1
  | .measuring => 2

/-- The overflow mask: bit i is detector i's flag (R114, R211). -/
def overflowMask (g : Sgd) : Word :=
  (List.finRange 24).foldl (fun m i => m ||| flagAt i.val (g.detectors.get i).flag) 0#24

/-- Word 18 or 19 of the record: the applied indices of four groups (R211). -/
def appliedWord (g : Sgd) (first : Nat) : Word :=
  let index := fun k => (g.groups.get (Fin.ofNat 8 (first + k))).applied
  placed 0 6 (index 0) ||| placed 6 6 (index 1) ||| placed 12 6 (index 2) ||| placed 18 6 (index 3)

/-- Word 0 of the record (R211). -/
def statusWord0 (s : State) : Word :=
  placed 0 2 s.rrx.lock.code ||| placed 2 3 s.scc.scene.code ||| flagAt 5 (s.scc.active == .b) |||
    flagAt 6 s.tld.isOpen ||| placed 8 2 s.svu.state.code ||| placed 10 10 s.rrx.period

/-- The status record, 44 words (R170, R211). -/
def statusRecord (s : State) : List Word :=
  [statusWord0 s, placed 0 15 s.scc.ramp, placed 0 16 s.scc.swaps,
   placed 0 10 s.tld.remaining ||| placed 10 11 s.dmc.shedLast, placed 0 11 s.dmc.shedWorst,
   placed 0 16 s.dmc.shedWindows, placed 0 16 s.rrx.badFrames, placed 0 16 s.rrx.missingFrames,
   placed 0 16 s.rrx.slips, placed 0 16 s.rrx.lockLosses, placed 0 16 s.cmu.overruns,
   placed 0 16 s.cmu.truncated, placed 0 16 s.cmu.damagedCount, placed 0 16 s.dmc.refreshOverruns,
   placed 0 16 s.tpe.busClips, placed 0 16 s.ios.outClips, faultWord s.cmu, overflowMask s.sgd,
   appliedWord s.sgd 0, appliedWord s.sgd 4] ++
  (List.finRange 24).map fun i => placed 0 16 (s.sgd.detectors.get i).total

/-- Every counter of events zeroed (R171). -/
def zeroCounters (s : State) : State :=
  { s with
    rrx := { s.rrx with badFrames := 0, missingFrames := 0, slips := 0, lockLosses := 0 }
    cmu := { s.cmu with overruns := 0, truncated := 0, damagedCount := 0 }
    dmc := { s.dmc with shedWorst := 0, shedWindows := 0, refreshOverruns := 0 }
    tpe := { s.tpe with busClips := 0 }
    ios := { s.ios with outClips := 0 }
    sgd := { s.sgd with detectors := s.sgd.detectors.map fun d => { d with total := 0 } } }

/-- STATUS (R170, R171). Its shed note is cleared after the reply header has been formed (R167). -/
def takeStatus (args : List Word) (s : State) : Verdict :=
  match field (argAt args 0) 1 0 with
  | 0 => ⟨s, .ok, statusRecord s⟩
  | 1 => ⟨zeroCounters s, .ok, statusRecord s⟩
  | _ => refuse .range s

/-- FAULT-CLEAR (R173). -/
def takeFaultClear (_args : List Word) (s : State) : Verdict :=
  ⟨{ s with cmu := { s.cmu with fault := none, laterCount := 0 } }, .ok, [faultWord s.cmu]⟩

/-- RESTART (R174): it acts at the next window start. -/
def takeRestart (_args : List Word) (s : State) : Verdict :=
  accept { s with cmu := { s.cmu with restartPending := true } }

end Sys2Proof.Machine
end

