-- ==== Sys2Proof/Machine/Commands.lean ====
section
/-! DEFINITION. The Command Unit (08_commands_and_replies.md): assembling a message from cells, judging it,
forming the reply, and offering its cells; and the fifteen message rows of the opcode table. -/

namespace Sys2Proof.Machine

/-! ### The command table (R162) -/

/-- The fifteen commands (R162). -/
inductive Command
  | status | read | write | loadOpen | loadData | loadClose | commit | cancel | hush | resume | guardClear
  | surveyStart | surveyStop | faultClear | restart
  deriving DecidableEq, Repr

/-- Command codes (R162). -/
def Command.code : Command → Nat
  | .status => 0x01
  | .read => 0x02
  | .write => 0x03
  | .loadOpen => 0x10
  | .loadData => 0x11
  | .loadClose => 0x12
  | .commit => 0x20
  | .cancel => 0x21
  | .hush => 0x22
  | .resume => 0x23
  | .guardClear => 0x30
  | .surveyStart => 0x40
  | .surveyStop => 0x41
  | .faultClear => 0x50
  | .restart => 0x5A

/-- The command a code names, if it is one of the fifteen (R161, check 3). -/
def commandOf : Nat → Option Command
  | 0x01 => some .status
  | 0x02 => some .read
  | 0x03 => some .write
  | 0x10 => some .loadOpen
  | 0x11 => some .loadData
  | 0x12 => some .loadClose
  | 0x20 => some .commit
  | 0x21 => some .cancel
  | 0x22 => some .hush
  | 0x23 => some .resume
  | 0x30 => some .guardClear
  | 0x40 => some .surveyStart
  | 0x41 => some .surveyStop
  | 0x50 => some .faultClear
  | 0x5A => some .restart
  | _ => none

/-- The command may be broadcast (R162). -/
def Command.mayBroadcast : Command → Bool
  | .status => false
  | .read => false
  | .write => false
  | .loadOpen => false
  | .loadData => false
  | .loadClose => false
  | .commit => true
  | .cancel => true
  | .hush => true
  | .resume => true
  | .guardClear => true
  | .surveyStart => true
  | .surveyStop => false
  | .faultClear => false
  | .restart => true

/-- The argument count of a WRITE: one and whole entries, at least one; for an id of 11 or above no whole-entry
test (R162, R183). -/
def writeCountFits (args : List Word) : Bool :=
  2 ≤ args.length && args.length ≤ 62 &&
    (11 ≤ argTable (argAt args 0) || (args.length - 1) % tableWidth (argTable (argAt args 0)) == 0)

/-- The argument count is one that the command accepts (R161, check 5; R162). -/
def Command.accepts (c : Command) (args : List Word) : Bool :=
  match c with
  | .status => args.length == 1
  | .read => args.length == 2
  | .write => writeCountFits args
  | .loadOpen => args.length == 2
  | .loadData => 1 ≤ args.length && args.length ≤ 62
  | .loadClose => args.length == 0
  | .commit => args.length == 1
  | .cancel => args.length == 0
  | .hush => args.length == 0
  | .resume => args.length == 0
  | .guardClear => args.length == 2
  | .surveyStart => args.length == 2
  | .surveyStop => args.length == 0
  | .faultClear => args.length == 0
  | .restart => args.length == 0

/-- The owner judges and executes the command (R161, checks 6 and 7; R164). -/
def Command.run (c : Command) (args : List Word) (s : State) : Verdict :=
  match c with
  | .status => takeStatus args s
  | .read => takeRead args s
  | .write => takeWrite args s
  | .loadOpen => takeLoadOpen args s
  | .loadData => takeLoadData args s
  | .loadClose => takeLoadClose args s
  | .commit => takeCommit args s
  | .cancel => takeCancel args s
  | .hush => takeHush args s
  | .resume => takeResume args s
  | .guardClear => takeGuardClear args s
  | .surveyStart => takeSurveyStart args s
  | .surveyStop => takeSurveyStop args s
  | .faultClear => takeFaultClear args s
  | .restart => takeRestart args s

/-- What follows once the reply has been formed: an accepted STATUS has cleared the shed note (R167), and a
swap that an accepted COMMIT has made due is carried out if no window runs (R76). -/
def Command.afterReply (c : Command) (status : Status) (s : State) : State :=
  match c with
  | .status => if status = .ok then { s with cmu := { s.cmu with shedNote := false } } else s
  | .commit => if status = .ok then settleSwap s else s
  | .read => s
  | .write => s
  | .loadOpen => s
  | .loadData => s
  | .loadClose => s
  | .cancel => s
  | .hush => s
  | .resume => s
  | .guardClear => s
  | .surveyStart => s
  | .surveyStop => s
  | .faultClear => s
  | .restart => s

/-! ### Replies -/

/-- The kind code of a REPLY cell (R206). -/
def kindReply : BitVec 4 := 4#4

/-- The kind code of a REPLY_END cell (R206). -/
def kindReplyEnd : BitVec 4 := 5#4

/-- The cells of a reply: header, data words, and the REPLY_END with their number (R165). -/
def replyCells (header : Word) (data : List Word) : List Cell :=
  ⟨kindReply, header⟩ :: (data.map fun w => ⟨kindReply, w⟩) ++ [⟨kindReplyEnd, placed 0 6 data.length⟩]

/-- The reply to an addressed message is formed in full, and the overrun flag that its header carries is
cleared (R159, R165, R168). A part without a node address sends no reply (R156). -/
def formReply (code : Nat) (status : Status) (data : List Word) (s : State) : State :=
  match s.cmu.nodeAddress with
  | none => s
  | some a =>
    { s with cmu := { s.cmu with
      unit := .replying
      replyBuffer := replyCells (replyHeader s a status code) data
      headerHeld := true
      overrun := false } }

/-- A completed broadcast leaves no reply; the unit returns to the state it held apart from the assembly
(R159, R163). -/
def noReply (s : State) : State :=
  { s with cmu := { s.cmu with unit := if s.cmu.unit = .replying then .replying else .idle } }

/-- A verdict answered to whom the message was sent (R159, R163, R165). -/
def answer (via : Addressee) (code : Nat) (v : Verdict) : State :=
  match via with
  | .addressed => formReply code v.status v.data v.after
  | .broadcast => noReply v.after

/-- Checks 4 to 7 on a message whose command is known (R161). -/
def takeCommand (via : Addressee) (c : Command) (args : List Word) (s : State) : State :=
  if via = .broadcast ∧ ¬c.mayBroadcast then noReply s
  else if ¬c.accepts args then answer via c.code (refuse .length s)
  else
    let v := c.run args s
    c.afterReply v.status (answer via c.code v)

/-! ### Judging a message -/

/-- The header's command code (R207). -/
def headerCode (w : Word) : Nat := field w 23 16

/-- The header's argument count (R207). -/
def headerCount (w : Word) : Nat := field w 5 0

/-- A message that END has completed, and whose assembly has ended, is judged, executed or refused, and
answered (R159, R161). -/
def completeMessage (via : Addressee) (s : State) : State :=
  let code := match s.cmu.words with
    | [] => 0
    | header :: _ => headerCode header
  if s.cmu.damaged then
    answer via code
      (refuse .damaged { s with cmu := { s.cmu with damagedCount := saturate s.cmu.damagedCount 1 } })
  else
    match s.cmu.words with
    | [] => answer via code (refuse .length s)
    | header :: args =>
      if s.cmu.overflow ∨ headerCount header ≠ args.length then answer via code (refuse .length s)
      else
        match commandOf (headerCode header) with
        | none => answer via code (refuse .unknown s)
        | some c => takeCommand via c args s

/-! ### Cells -/

/-- The partial message in progress, if any, is discarded and counted (R156, R160). That its record, words and flags,
stays as it was until the next assembly empties it is the model's choice (DESIGN CHOICE; notes: assumption 22). -/
def discardAssembly (s : State) : State :=
  match s.cmu.assembly with
  | none => s
  | some _ =>
    { s with cmu := { s.cmu with assembly := none, truncated := saturate s.cmu.truncated 1 } }

/-- An assembly begins with an empty record (R156). A broadcast that begins while REPLYING leaves the unit
there. -/
def beginAssembly (via : Addressee) (s : State) : State :=
  { s with cmu := { s.cmu with
    unit := if s.cmu.unit = .replying then .replying else .assembling
    assembly := some via, words := [], overflow := false, damaged := false } }

/-- An addressed SELECT in REPLYING drops its message (R168). -/
def dropMessage (s : State) : State :=
  { s with cmu := { s.cmu with overruns := saturate s.cmu.overruns 1, overrun := true } }

/-- After a SELECT for another address the unit is IDLE, unless it is REPLYING (R156). -/
def unitAside (s : State) : State :=
  { s with cmu := { s.cmu with unit := if s.cmu.unit = .replying then .replying else .idle } }

/-- The address of a SELECT payload (R206). -/
def selectAddress (payload : Word) : Nat := field payload 5 0

/-- A SELECT cell of a good frame (R156, R168). -/
def selectCell (payload : Word) (s : State) : State :=
  if selectAddress payload = 63 then beginAssembly .broadcast (discardAssembly s)
  else if s.cmu.nodeAddress.map Fin.val = some (selectAddress payload) then
    if s.cmu.unit = .replying then dropMessage (discardAssembly s)
    else beginAssembly .addressed (discardAssembly s)
  else unitAside (discardAssembly s)

/-- A WORD cell of a good frame (R157). -/
def wordCell (payload : Word) (s : State) : State :=
  match s.cmu.assembly with
  | none => s
  | some _ =>
    if s.cmu.words.length < 63 then
      { s with cmu := { s.cmu with words := s.cmu.words ++ [payload] } }
    else { s with cmu := { s.cmu with overflow := true } }

/-- An END cell of a good frame (R159). -/
def endCell (s : State) : State :=
  match s.cmu.assembly with
  | none => s
  | some via => completeMessage via { s with cmu := { s.cmu with assembly := none } }

/-- The cell of a good frame (R155). IDLE, REPLY, REPLY_END and unknown kinds do nothing here. -/
def takeCell (kind : BitVec 4) (payload : Word) (s : State) : State :=
  if kind = 1#4 then selectCell payload s
  else if kind = 2#4 then wordCell payload s
  else if kind = 3#4 then endCell s
  else s

/-- A bad, spurious or missing frame (R158). -/
def damageMessage (s : State) : State :=
  match s.cmu.assembly with
  | none => s
  | some _ => { s with cmu := { s.cmu with damaged := true } }

/-- The header of the reply held has not been sent, and it carries the overrun note (R168, R207). -/
def overrunHeld (c : Cmu) : Bool :=
  c.headerHeld && (match c.replyBuffer with
    | [] => false
    | h :: _ => bit h.payload 8)

/-- The receiver has entered SEARCHING: all message traffic is abandoned (R160, R168). -/
def abandonTraffic (s : State) : State :=
  let t := discardAssembly s
  { t with cmu := { t.cmu with
    unit := .idle, replyBuffer := [], headerHeld := false
    overrun := t.cmu.overrun || overrunHeld t.cmu } }

/-- The Ring Transmitter offers the IDLE cell of a good forwarded frame: the head of the reply buffer goes out,
and after the last cell the unit leaves REPLYING (R149, R166). -/
def offerCell (c : Cmu) : Option Cell × Cmu :=
  match c.replyBuffer with
  | [] => (none, c)
  | [last] =>
    (some last, { c with
      replyBuffer := [], headerHeld := false
      unit := if c.assembly.isSome then .assembling else .idle })
  | head :: rest => (some head, { c with replyBuffer := rest, headerHeld := false })

/-! ### Message rows -/

/-- The SELECT payload for this part or for every part; a part without a node address has none (R156). -/
def addressFor (via : Addressee) (c : Cmu) : Option Word :=
  match via with
  | .broadcast => some 63#24
  | .addressed => c.nodeAddress.map fun a => BitVec.ofNat 24 a.val

/-- The header WORD of a command with its arguments (R207). -/
def headerWord (c : Command) (args : List Word) : Word := placed 16 8 c.code ||| placed 0 6 args.length

/-- Cells of frames reach the Command Unit in LOCKED and FLYWHEEL (R145, R155). -/
def cellsReach (lock : LockState) : Bool := lock == .locked || lock == .flywheel

/-- A whole message delivered: SELECT, header, arguments and END, each in a good frame (R155 to R159). While the
receiver is out of lock no cell reaches the Command Unit, and nothing happens. -/
def takeMessage (via : Addressee) (c : Command) (args : List Word) (s : State) : State :=
  if cellsReach s.rrx.lock then
    match addressFor via s.cmu with
    | none => s
    | some a => endCell ((headerWord c args :: args).foldl (fun t w => wordCell w t) (selectCell a s))
  else s

/-- STATUS (R170). -/
def execStatus (via : Addressee) (args : List Word) (s : State) : Host.Outcome State Fault Refusal :=
  .next (takeMessage via .status args s)

/-- READ (R182). -/
def execRead (via : Addressee) (args : List Word) (s : State) : Host.Outcome State Fault Refusal :=
  .next (takeMessage via .read args s)

/-- WRITE (R183). -/
def execWrite (via : Addressee) (args : List Word) (s : State) : Host.Outcome State Fault Refusal :=
  .next (takeMessage via .write args s)

/-- LOAD-OPEN (R186). -/
def execLoadOpen (via : Addressee) (args : List Word) (s : State) : Host.Outcome State Fault Refusal :=
  .next (takeMessage via .loadOpen args s)

/-- LOAD-DATA (R187). -/
def execLoadData (via : Addressee) (args : List Word) (s : State) : Host.Outcome State Fault Refusal :=
  .next (takeMessage via .loadData args s)

/-- LOAD-CLOSE (R190). -/
def execLoadClose (via : Addressee) (args : List Word) (s : State) : Host.Outcome State Fault Refusal :=
  .next (takeMessage via .loadClose args s)

/-- COMMIT (R78). -/
def execCommit (via : Addressee) (args : List Word) (s : State) : Host.Outcome State Fault Refusal :=
  .next (takeMessage via .commit args s)

/-- CANCEL (R81). -/
def execCancel (via : Addressee) (args : List Word) (s : State) : Host.Outcome State Fault Refusal :=
  .next (takeMessage via .cancel args s)

/-- HUSH (R83). -/
def execHush (via : Addressee) (args : List Word) (s : State) : Host.Outcome State Fault Refusal :=
  .next (takeMessage via .hush args s)

/-- RESUME (R84). -/
def execResume (via : Addressee) (args : List Word) (s : State) : Host.Outcome State Fault Refusal :=
  .next (takeMessage via .resume args s)

/-- GUARD-CLEAR (R110). -/
def execGuardClear (via : Addressee) (args : List Word) (s : State) : Host.Outcome State Fault Refusal :=
  .next (takeMessage via .guardClear args s)

/-- SURVEY-START (R194). -/
def execSurveyStart (via : Addressee) (args : List Word) (s : State) : Host.Outcome State Fault Refusal :=
  .next (takeMessage via .surveyStart args s)

/-- SURVEY-STOP (R196). -/
def execSurveyStop (via : Addressee) (args : List Word) (s : State) : Host.Outcome State Fault Refusal :=
  .next (takeMessage via .surveyStop args s)

/-- FAULT-CLEAR (R173). -/
def execFaultClear (via : Addressee) (args : List Word) (s : State) : Host.Outcome State Fault Refusal :=
  .next (takeMessage via .faultClear args s)

/-- RESTART (R174). -/
def execRestart (via : Addressee) (args : List Word) (s : State) : Host.Outcome State Fault Refusal :=
  .next (takeMessage via .restart args s)

end Sys2Proof.Machine
end

