-- ==== Sys2Proof/Machine/Window.lean ====
section
/-! DEFINITION. The window end, and what a window start does in every block, in the order the chapters give:
R24 and R62 for the end; R34, R43, R50, R51, R56, R72, R96, R118, R134, R174 and R197 for the start. -/

namespace Sys2Proof.Machine

/-! ### The rows that exist -/

/-- Every line, stored and in force, lies in the 4096 rows of the delay memory. R33 keeps it so. -/
def rowsExist (s : State) : Bool :=
  s.tables.lines.cells.all (fun w => Line.fits (baseOf w) (rowsOf w)) &&
    s.lines.cells.all (fun l => Line.fits l.base l.rows)

/-! ### Window end -/

/-- The fault of a window with clipped buses: one, with the lowest of them (R26). -/
def raiseClip (clipped : List (Fin 16)) (s : State) : State :=
  match clipped with
  | [] => s
  | b :: _ => raise .busClip b.val s

/-- One fault for each CUT overflow, in detector order (R105, R106). -/
def raiseCuts (cuts : List (Fin 8)) (s : State) : State :=
  cuts.foldl (fun t g => raise .guardCut g.val t) s

/-- The faults of a window end. Faults of different blocks may reach the record in either order (R172). -/
def raiseWindowFaults (clipped : List (Fin 16)) (cuts : List (Fin 8)) (s : State) : State :=
  if !clipped.isEmpty && !cuts.isEmpty then
    let t := { s with draws := s.draws + 1 }
    if Config.raceChoice s.draws then raiseCuts cuts (raiseClip clipped t)
    else raiseClip clipped (raiseCuts cuts t)
  else raiseCuts cuts (raiseClip clipped s)

/-- The samples of the window that ends, by survey channel (R193). -/
def windowChannels (s : State) : Channels := ⟨s.ios.conditioned, busSamples s, outputSamples s⟩

/-- The guard at the window end (R96). -/
def guardWindowEnd (s : State) : State :=
  { s with sgd := (s.sgd.runDetectors s.ios.conditioned).finish s.sgd }

/-- The window end in every block: buses finished and written, outputs finished and queued, trims and phases
stepped, the guard, the faults, the survey and the scene (R24, R62, R96, R122, R124, R126, R199, R72). -/
def endBlocks (s : State) : State :=
  sceneWindowEnd
    (surveyWindowEnd (windowChannels s)
      (raiseWindowFaults (clippedBuses s) (s.sgd.runDetectors s.ios.conditioned).cuts
        (guardWindowEnd (finishOutputs (busStage (busSamples s) (tapWindowEnd s))))))

/-- The window end, if a window runs; a swap that is due follows it at once (R24, R76). -/
def endWindow (s : State) : State :=
  if s.inWindow then settleSwap { endBlocks s with inWindow := false } else s

/-! ### Window start in each block -/

/-- The Ring Receiver at a window start, once it has taken the event (R134, R136 to R138, R140). -/
def Rrx.windowStart (r : Rrx) (time : Nat) (stored : Word) : Rrx :=
  { r with
    lastStart := time
    ringset := ringOf stored
    watch :=
      match r.lock with
      | .locked => some (time + (r.period + r.period / 8))
      | .flywheel => some (time + (r.period + r.period / 8))
      | .searching => none
      | .acquiring => none
    localTimer :=
      match r.lock with
      | .locked => none
      | .flywheel => none
      | .searching => some (time + r.period)
      | .acquiring => some (time + 564) }

/-- The stored LINES entry of a line differs from its geometry in force (R34). -/
def geometryChanged (t : Tables) (lines : Regs Line 40) (i : Fin 40) : Bool :=
  (lines.get i).base ≠ baseOf (t.lines.get i) || (lines.get i).rows ≠ rowsOf (t.lines.get i)

/-- The geometry taken into force: each changed line takes its stored entry and is cleared (R34, R41). -/
def takeGeometry (s : State) : State :=
  let changed := fun line => if h : line < 40 then geometryChanged s.tables s.lines ⟨line, h⟩ else false
  let t := zeroHeld changed s
  { t with lines := Regs.tab fun i =>
      if geometryChanged s.tables s.lines i then
        { base := baseOf (s.tables.lines.get i), rows := rowsOf (s.tables.lines.get i), wp := 0, fill := 0 }
      else s.lines.get i }

/-- RESTART at the Tap Engine, the lines, the memory controller and the scene (R10, R18, R43, R51, R89). The
guard, the stages and the survey take theirs in their own window starts. -/
def restartBlocks (s : State) : State :=
  { s with
    lines := clearAllLines s.lines
    tpe := s.tpe.reload (activeBank s)
    dmc := { s.dmc with openRow := none, direction := none }
    scc := s.scc.restarted
    cmu := { s.cmu with restartPending := false } }

/-- The refresh timer and the pending count when a record comes into force at a window start, which lies at
4 × time units (R47, R50). -/
def Dmc.takeTiming (d : Dmc) (t : Timing) (time : Nat) : Dmc :=
  match d.timing.refreshOn, t.refreshOn with
  | true, true => { d with timing := t }
  | true, false => { d with timing := t, refreshDue := none, pendingRefresh := 0 }
  | false, true => { d with timing := t, refreshDue := some (4 * time + t.interval), pendingRefresh := 0 }
  | false, false => { d with timing := t }

/-- The Delay Memory Controller at a window start: the stored record into force, and the spend 0 (R50, R56). A
window begun without refresh is counted for the retention of the delay memory (R68). -/
def memoryWindowStart (time : Nat) (s : State) : State :=
  let d := s.dmc.takeTiming (timingOf s.tables.timing) time
  { s with
    dmc := { d with spend := 0 }
    lapse := if d.timing.refreshOn then s.lapse else s.lapse.unrefreshed }

/-- The window start in every block, up to the frame that is sent (R145): the ring, the geometry, RESTART, the
timing, the guard, the stages, the survey and the scene's window state. -/
def startBlocks (time : Nat) (s : State) : State :=
  let restart := s.cmu.restartPending
  let a := takeGeometry { s with rrx := s.rrx.windowStart time s.tables.ringset }
  let b := memoryWindowStart time (if restart then restartBlocks a else a)
  { b with
    sgd := b.sgd.windowStart restart b.tables
    ios := b.ios.windowStart restart b.tables
    svu := b.svu.windowStart restart
    scc := { b.scc with windowState := b.scc.scene } }

/-! ### The stages of the window -/

/-- Stages 1 and 2, after the inputs have been conditioned (R56 to R58). -/
def earlyStages (s : State) : State := inputStage (refreshStage (conditionInputs s))

end Sys2Proof.Machine
end

