-- ==== Sys2Proof/Machine/Ring.lean ====
section
/-! DEFINITION. Frames on the ring (07_frames_on_the_ring.md): the frame check, how the receiver takes a frame
or an expiry in each lock state, the frame that is sent, and the window that an event opens. -/

namespace Sys2Proof.Machine

/-! ### The frame check (R132, R206) -/

/-- The low `n` bits of a number, most significant bit first. -/
def bitsOf : Nat → Nat → List Bool
  | 0, _ => []
  | n + 1, v => v.testBit n :: bitsOf n v

/-- The checked contents of a frame, each field most significant bit first (R132, R206). -/
def contentBits (f : Frame) : List Bool :=
  bitsOf 8 f.number.toNat ++ f.mark :: f.origin ::
    ((f.slots.cells.flatMap fun x => bitsOf 24 x.toNat) ++
      (bitsOf 4 f.kind.toNat ++ bitsOf 24 f.payload.toNat))

/-- The check register taken over a run of bits (R132). -/
def checkOver : List Bool → BitVec 16 → BitVec 16
  | [], r => r
  | b :: l, r =>
    match r.msb != b with
    | true => checkOver l ((r <<< 1) ^^^ 0x3D65#16)
    | false => checkOver l (r <<< 1)

/-- The whole frame as it travels, 3142 bits: the sync, the checked contents and the check (R131, R206). -/
def frameBits (f : Frame) : List Bool := bitsOf 16 f.sync.toNat ++ contentBits f ++ bitsOf 16 f.check.toNat

/-- The bits of a frame that are on the ring: all of them, or those before an early sync (R132, R150). -/
def ringBits (f : Frame) : List Bool :=
  match f.cut with
  | none => frameBits f
  | some n => (frameBits f).take (16 + n)

/-- The ring output: the bits of the frame last sent (R147, R206). -/
def ringOutput (s : State) : List Bool :=
  match s.rtx.sent with
  | none => []
  | some f => ringBits f

/-- The correct check of a frame's contents (R132). -/
def correctCheck (f : Frame) : BitVec 16 := checkOver (contentBits f) 0xFFFF#16

/-- A frame is good: received to its end, with the correct check of its contents (R132). -/
def frameGood (f : Frame) : Bool := f.cut.isNone && f.check == correctCheck f

/-! ### Taking an event at the receiver -/

/-- The events that open a window, with the received frame where there is one (R145). -/
inductive Opening
  | good (frame : Frame)
  | bad (frame : Frame)
  | missing
  | localTimer
  deriving DecidableEq, Repr

/-- What the receiver makes of an event. -/
structure Taken where
  /-- The receiver once it has taken the event. -/
  rrx : Rrx
  /-- Lock is lost by it (R142). -/
  lost : Bool
  /-- The receiver enters SEARCHING by it. -/
  searching : Bool
  /-- The window it opens, if it opens one. -/
  opening : Option Opening
  deriving DecidableEq, Repr

/-- An event that opens no window and does not enter SEARCHING. -/
def Taken.quiet (r : Rrx) : Taken := ⟨r, false, false, none⟩

/-- An event that opens a window, without a loss of lock. -/
def Taken.opens (r : Rrx) (o : Opening) : Taken := ⟨r, false, false, some o⟩

/-- The period estimate after a good frame in LOCKED (R135). -/
def nextPeriod (period interval : Nat) : Nat :=
  if 461 ≤ interval && interval ≤ 563 then
    ((period : Int) + ((interval : Int) - (period : Int)) / 16).toNat
  else period

/-- A frame arrives less than 461 ticks after the previous window start (R136). -/
def tooSoon (r : Rrx) (time : Nat) : Bool := time < r.lastStart + 461

/-- One more bad frame counted (R153). -/
def Rrx.countBad (r : Rrx) : Rrx := { r with badFrames := saturate r.badFrames 1 }

/-- A frame taken in SEARCHING (R139). -/
def Rrx.takeSearching (r : Rrx) (time : Nat) (f : Frame) : Taken :=
  if frameGood f then
    let a := { r with
      lock := .acquiring, goodCount := 1, prevNumber := f.number, localTimer := some (time + 564) }
    if tooSoon r time then Taken.quiet a else Taken.opens a (.good f)
  else Taken.quiet r.countBad

/-- The good count after a counted frame (R140). -/
def Rrx.nextGood (r : Rrx) : Nat := min (r.goodCount + 1) 255

/-- A counted frame in ACQUIRING: it may complete the acquisition (R140, R144). -/
def Rrx.takeCounted (r : Rrx) (f : Frame) : Rrx :=
  let a := { r with goodCount := r.nextGood, prevNumber := f.number }
  if r.ringset.acquire ≤ r.nextGood then
    { a with lock := .locked, badCount := 0, firstPending := true, heldFrame := f.slots }
  else a

/-- A frame taken in ACQUIRING (R140, R143). -/
def Rrx.takeAcquiring (r : Rrx) (time : Nat) (f : Frame) : Taken :=
  if frameGood f && !tooSoon r time then
    if f.number = r.prevNumber + 1 then Taken.opens (r.takeCounted f) (.good f)
    else ⟨{ r with lock := .searching, goodCount := 0, prevNumber := f.number }, false, true, none⟩
  else ⟨{ r.countBad with lock := .searching, goodCount := 0 }, false, true, none⟩

/-- A bad, spurious or missing frame in LOCKED or FLYWHEEL, before the tolerance is asked; one that opens a
window makes the first interval pending in LOCKED and advances the previous frame number (R141 to R143). -/
def Rrx.flywheel (r : Rrx) (opens : Bool) : Rrx :=
  { r with
    lock := .flywheel
    badCount := if r.lock = .locked then 1 else r.badCount + 1
    firstPending := if r.lock = .locked ∧ opens then true else r.firstPending
    prevNumber := if opens then r.prevNumber + 1 else r.prevNumber }

/-- Lock is lost: SEARCHING, the counts 0, the watch stopped, and the local frame timer started from the
previous window start when it was stopped; a window start retimes it (R138, R142). -/
def Rrx.lose (r : Rrx) : Rrx :=
  { r with
    lock := .searching, goodCount := 0, badCount := 0, watch := none
    lockLosses := saturate r.lockLosses 1
    localTimer :=
      match r.localTimer with
      | some e => some e
      | none => some (r.lastStart + r.period) }

/-- A bad, spurious or missing frame taken in LOCKED or FLYWHEEL (R141, R142). -/
def Rrx.takeFailing (r : Rrx) (opening : Option Opening) : Taken :=
  let a := r.flywheel opening.isSome
  if a.ringset.tolerance ≤ a.badCount then ⟨a.lose, true, true, opening⟩ else ⟨a, false, false, opening⟩

/-- A good frame, not spurious, taken in LOCKED or FLYWHEEL (R135, R141 to R144). -/
def Rrx.takeFollowed (r : Rrx) (time : Nat) (f : Frame) : Rrx :=
  { r with
    lock := .locked, badCount := 0, prevNumber := f.number, heldFrame := f.slots
    slips := if f.number = r.prevNumber + 1 then r.slips else saturate r.slips 1
    period :=
      if r.lock = .locked ∧ r.firstPending = false then nextPeriod r.period (time - r.lastStart) else r.period
    firstPending := if r.lock = .locked then false else true }

/-- A frame taken in LOCKED or FLYWHEEL (R136, R141, R142). -/
def Rrx.takeFollowing (r : Rrx) (time : Nat) (f : Frame) : Taken :=
  if tooSoon r time then r.countBad.takeFailing none
  else if frameGood f then Taken.opens (r.takeFollowed time f) (.good f)
  else r.countBad.takeFailing (some (.bad f))

/-- A frame taken, by the lock state (R139 to R142). -/
def Rrx.takeFrame (r : Rrx) (time : Nat) (f : Frame) : Taken :=
  match r.lock with
  | .searching => r.takeSearching time f
  | .acquiring => r.takeAcquiring time f
  | .locked => r.takeFollowing time f
  | .flywheel => r.takeFollowing time f

/-- A missing frame: the watch has expired in LOCKED or FLYWHEEL (R137, R141, R142). -/
def Rrx.takeMissing (r : Rrx) : Taken :=
  { r with missingFrames := saturate r.missingFrames 1 }.takeFailing (some .missing)

/-- An expiry of the local frame timer in SEARCHING or ACQUIRING (R138, R140). -/
def Rrx.takeLocal (r : Rrx) : Taken :=
  ⟨{ r with lock := .searching, goodCount := 0 }, false, r.lock == .acquiring, some .localTimer⟩

/-! ### The frame sent (R147 to R152) -/

/-- The entry at the head of the output queue, blank if there were none (R126). -/
def queueHead (s : State) : QueueEntry := s.ios.queue.headD QueueEntry.blank

/-- A frame with its correct check. -/
def sealFrame (f : Frame) : Frame := { f with check := correctCheck f }

/-- A frame with the complement of its correct check (R150, R151). -/
def poisonFrame (f : Frame) : Frame := { f with check := ~~~(correctCheck f) }

/-- A frame of the part's own: the next number, origin set, pass-through slots 0, an IDLE cell with payload 0
(R151, R152, R206). -/
def ownFrame (number : BitVec 8) (e : QueueEntry) : Frame :=
  { sync := syncPattern, number := number, mark := false, origin := true, slots := placeEntry e (Regs.fill 128 0#24),
    kind := 0#4, payload := 0#24, check := 0#16, cut := none }

/-- The cell of a forwarded good frame: a reply cell takes the place of a received IDLE cell when one is ready
(R149, R166). -/
def forwardedCell (f : Frame) (c : Cmu) : Cell × Cmu :=
  if f.kind = 0#4 then
    match offerCell c with
    | (some cell, d) => (cell, d)
    | (none, d) => (⟨f.kind, f.payload⟩, d)
  else (⟨f.kind, f.payload⟩, c)

/-- The transmitter once a frame has been sent, and the queue without its head (R126, R147). -/
def sendAs (mode : TxMode) (f : Frame) (s : State) : State :=
  { s with
    rtx := { mode := mode, number := f.number, sent := some f }
    ios := { s.ios with queue := s.ios.queue.tail } }

/-- A good frame forwarded (R148, R149). -/
def forwardGood (f : Frame) (s : State) : State :=
  let cell := forwardedCell f s.cmu
  let g : Frame :=
    { f with slots := placeEntry (queueHead s) f.slots, kind := cell.1.kind, payload := cell.1.payload }
  sendAs .follow (sealFrame g) { s with cmu := cell.2 }

/-- A bad frame forwarded and poisoned; the outgoing number is counted on, whatever number the frame carries
(R147, R150). -/
def forwardBad (f : Frame) (s : State) : State :=
  let g : Frame := { f with slots := placeEntry (queueHead s) f.slots }
  let t := sendAs .follow (poisonFrame g) s
  { t with rtx := { t.rtx with number := s.rtx.number + 1 } }

/-- A stand-in frame (R151). -/
def sendStandIn (s : State) : State :=
  sendAs .follow (poisonFrame (ownFrame (s.rtx.number + 1) (queueHead s))) s

/-- An originated frame (R152). -/
def sendOriginated (s : State) : State :=
  sendAs .originate (sealFrame (ownFrame (s.rtx.number + 1) (queueHead s))) s

/-- The frame of a window start, by the lock state and the event (R147). In LOCKED and FLYWHEEL the local frame
timer is stopped, so it opens no window there. -/
def sendFrame (o : Opening) (s : State) : State :=
  match s.rrx.lock, o with
  | .searching, _ => sendOriginated s
  | .acquiring, _ => sendOriginated s
  | .locked, .good f => forwardGood f s
  | .locked, .bad f => forwardBad f s
  | .locked, .missing => sendStandIn s
  | .locked, .localTimer => sendStandIn s
  | .flywheel, .good f => forwardGood f s
  | .flywheel, .bad f => forwardBad f s
  | .flywheel, .missing => sendStandIn s
  | .flywheel, .localTimer => sendStandIn s

/-! ### What follows the window start -/

/-- A mark arrival at the Scene Controller and at the Survey Unit (R82, R146, R198). -/
def takeMark (s : State) : State := surveyTrigger .mark (sceneMark s)

/-- The good frame whose cell and mark are handed on: it opened a window in LOCKED (R145, R146, R155). -/
def handedFrame (lock : LockState) (o : Opening) : Option Frame :=
  match lock, o with
  | .locked, .good f => some f
  | .locked, .bad _ => none
  | .locked, .missing => none
  | .locked, .localTimer => none
  | .flywheel, _ => none
  | .searching, _ => none
  | .acquiring, _ => none

/-- The frame's cell completes a message, which may meet the mark, the shed record and an expiry of the loader
in either order (R65, R87, R167, R191). -/
def racing (f : Frame) (c : Cmu) : Bool := f.kind == 3#4 && c.assembly.isSome

/-- A bad, spurious or missing frame in LOCKED or FLYWHEEL reaches the Command Unit (R145, R155, R158). The one
that has just lost lock finds no message left to damage (R160). -/
def handBad (s : State) : State := if cellsReach s.rrx.lock then damageMessage s else s

/-- The window's deliveries once its frame is sent: the mark, the shed record and the cell. `d` is the count of
races at the window start. The mark meets the cell only where it finds ARMED: a COMMIT AT-MARK that the cell
completes is not started by this mark (R82, R87). A bad or missing frame damages the message in progress (R145, R146, R158). -/
def deliver (o : Opening) (shed d : Nat) (s : State) : State :=
  match handedFrame s.rrx.lock o with
  | some f =>
    let r := racing f s.cmu
    let markLate := r && f.mark && s.scc.scene == .armed && Config.raceChoice (d + 2)
    let shedLate := r && (shed ≠ 0 || s.dmc.shedLast ≠ 0) && Config.raceChoice (d + 3)
    let a := if f.mark && !markLate then takeMark s else s
    let b := if shedLate then a else recordShed shed a
    let c := takeCell f.kind f.payload b
    let e := if markLate then takeMark c else c
    if shedLate then recordShed shed e else e
  | none => handBad (recordShed shed s)

/-! ### A window opened -/

/-- Where an expiry of the loader's idle timer is due at this window start, it may come before all else, by the
window start's own race `d` (R172, R191; notes: assumption 8). -/
def expireFirst (d : Nat) (s : State) : State :=
  if idleReaches s.tld && Config.raceChoice d then expireLoad s.rtx.number s else s

/-- An event's effect on the receiver, with the LOCK_LOST fault and the notice to the Command Unit
(R142, R160). -/
def takeEvent (j : Taken) (s : State) : State :=
  let a := { s with rrx := j.rrx }
  let b := if j.lost then raise .lockLost 0 a else a
  if j.searching then abandonTraffic b else b

/-- The cell of the frame that opened the window completes a message. -/
def completes (o : Opening) (s : State) : Bool :=
  match handedFrame s.rrx.lock o with
  | some f => racing f s.cmu
  | none => false

/-- The idle timer at a window start: it counts, and an expiry comes here or, where the frame completes a
message, perhaps after its cell (R185, R191). -/
def idleStart (o : Opening) (d : Nat) (s : State) : State :=
  let a := { s with tld := s.tld.countIdle }
  if idleDue a.tld && completes o s && Config.raceChoice (d + 1) then a else settleExpiry a

/-- The stages of the window from its start to the end of its tap pass, and then the deliveries (R56 to R61,
R145). -/
def runStages (o : Opening) (d : Nat) (s : State) : State :=
  let a := earlyStages s
  let p := runTaps a
  deliver o p.shed d { tapStage p a with inWindow := true }

/-- The window that an event opens, with all that follows it up to the next window end (R145). -/
def openWindow (time : Nat) (j : Taken) (o : Opening) (s : State) : State :=
  let d := s.draws
  let a := startBlocks time (takeEvent j (expireFirst d { s with draws := d + 4 }))
  settleExpiry (runStages o d (idleStart o d (sendFrame o a)))

/-- An event taken by the receiver: it opens a window, after the window that still runs has ended (R47), or it
opens none. -/
def takeRingEvent (time : Nat) (j : Taken) (s : State) : State :=
  match j.opening with
  | some o => openWindow time j o (endWindow s)
  | none => takeEvent j (handBad s)

end Sys2Proof.Machine
end

