-- ==== Sys2Proof/Machine/Events.lean ====
section
/-! DEFINITION. The meanings of the event rows: the ring, its two timers, the refresh timer, the window end, and
the events that fall inside a window end or a window start. -/

namespace Sys2Proof.Machine

/-! ### The ring and its timers -/

/-- An event of the ring: it stops with a fault where a window that it opens could meet a delay memory row that
does not exist (R31, R33). -/
def ringOutcome (time : Nat) (j : Taken) (s : State) : Host.Outcome State Fault Refusal :=
  if j.opening.isSome && !rowsExist s then .fault .absentRow else .next (takeRingEvent time j s)

/-- FRAME_ARRIVAL (R131, R139 to R142). -/
def execFrameArrival (time : Nat) (frame : Frame) (s : State) : Host.Outcome State Fault Refusal :=
  ringOutcome time (s.rrx.takeFrame time frame) s

/-- The time of the watch expiry: the watch runs in LOCKED and FLYWHEEL (R137). -/
def watchTime (r : Rrx) : Option Nat := if cellsReach r.lock then r.watch else none

/-- WATCH_EXPIRY (R137), at the time the watch holds. While it is stopped there is no such event, and nothing
happens. -/
def execWatchExpiry (s : State) : Host.Outcome State Fault Refusal :=
  match watchTime s.rrx with
  | some time => ringOutcome time s.rrx.takeMissing s
  | none => .next s

/-- The time of the local frame timer's expiry: it runs in SEARCHING and ACQUIRING (R138). -/
def localTime (r : Rrx) : Option Nat := if cellsReach r.lock then none else r.localTimer

/-- LOCAL_FRAME_TIMER_EXPIRY (R138, R140), at the time the timer holds. While it is stopped there is no such
event, and nothing happens. -/
def execLocalFrameTimerExpiry (s : State) : Host.Outcome State Fault Refusal :=
  match localTime s.rrx with
  | some time => ringOutcome time s.rrx.takeLocal s
  | none => .next s

/-! ### Refresh -/

/-- One expiry of the refresh timer at the pending count (R66, R67). -/
def addRefresh (s : State) : State :=
  if s.dmc.pendingRefresh < 7 then
    { s with dmc := { s.dmc with pendingRefresh := s.dmc.pendingRefresh + 1 } }
  else
    raise .refreshOverrun 0
      { s with dmc := { s.dmc with refreshOverruns := saturate s.dmc.refreshOverruns 1 } }

/-- REFRESH_TIMER_EXPIRY (R66), at the time the timer holds: it restarts for the interval in force and adds one
request. While it is stopped there is no such event, and nothing happens (R68). -/
def execRefreshTimerExpiry (s : State) : Host.Outcome State Fault Refusal :=
  match s.dmc.refreshDue with
  | some due =>
    .next (addRefresh { s with dmc := { s.dmc with refreshDue := some (due + s.dmc.timing.interval) } })
  | none => .next s

/-! ### Window end -/

/-- WINDOW_END (R24). While no window runs there is no such event, and nothing happens. -/
def execWindowEnd (s : State) : Host.Outcome State Fault Refusal :=
  if s.inWindow && !rowsExist s then .fault .absentRow else .next (endWindow s)

/-! ### The events inside a window end or a window start -/

/-- LOAD_TIMEOUT (R191). -/
def execLoadTimeout (s : State) : Host.Outcome State Fault Refusal := .next (loadTimeoutNow s)

/-- FORGIVENESS_EXPIRY of a detector (R101). -/
def execForgivenessExpiry (detector : Fin 24) (s : State) : Host.Outcome State Fault Refusal :=
  .next (forgiveDetector detector s)

/-- RECOVERY_EXPIRY of a guard group (R108). -/
def execRecoveryExpiry (group : Fin 8) (s : State) : Host.Outcome State Fault Refusal :=
  .next (recoverGroup group s)

/-- TRIP of a detector (R99, R100). -/
def execTrip (detector : Fin 24) (s : State) : Host.Outcome State Fault Refusal :=
  .next (tripDetector detector s)

/-- The end of the window that runs, where an event of that window end is due, and nothing otherwise. -/
def windowEndIf (due : Bool) (s : State) : Host.Outcome State Fault Refusal :=
  if s.inWindow && due then (if rowsExist s then .next (endWindow s) else .fault .absentRow) else .next s

/-- FADE_TARGET_ACTION (R73): a target acts only at a window end where its fade-out reaches ρ = 0, so the row is that
window end, with what R9, R42 and R75 make of its phase advance and its bus writes. Where none is due nothing happens. -/
def execFadeTargetAction (s : State) : Host.Outcome State Fault Refusal := windowEndIf (fadeOutEnds s) s

/-- FADE_IN_COMPLETE (R72): a fade-in completes only at a window end where it reaches ρ = R, so the row is that window
end. Where none is due nothing happens. -/
def execFadeInComplete (s : State) : Host.Outcome State Fault Refusal := windowEndIf (fadeInEnds s) s

/-- LEVEL_FINISH (R200). -/
def execLevelFinish (s : State) : Host.Outcome State Fault Refusal := .next (levelFinishNow s)

/-- DECAY_FINISH (R203). -/
def execDecayFinish (s : State) : Host.Outcome State Fault Refusal := .next (decayFinishNow s)

end Sys2Proof.Machine
end

