-- ==== Sys2Proof/Machine/Reset.lean ====
section
/-! DEFINITION. Power-on reset: every block at its power-on values, and the straps sampled (R175 and the state
tables of the chapters). -/

namespace Sys2Proof.Machine

/-- The node address the straps give: 0..62, and none for 63 (R156). -/
def strapAddress (straps : BitVec 6) : Option (Fin 63) :=
  if h : straps.toNat < 63 then some ⟨straps.toNat, h⟩ else none

/-- The Ring Receiver after a power-on reset at a time (R154). -/
def Rrx.powerOn (r : Rrx) (time : Nat) : Rrx :=
  { r with lastStart := time, localTimer := some (time + r.period) }

/-- The machine after a power-on reset at a time: State.reset with the straps, and with the timers counted from
that time (R66, R154, R175). The delay memory holds nothing known (R44). The queue, and the counts that the free
values take, go on. -/
def powerOn (straps : BitVec 6) (time : Nat) (s : State) : State :=
  { State.reset with
    rrx := State.reset.rrx.powerOn time
    cmu := { State.reset.cmu with nodeAddress := strapAddress straps }
    dmc := { State.reset.dmc with refreshDue := some (4 * time + Timing.default.interval) }
    lapse := { windows := s.lapse.windows + 1, served := [] }, draws := s.draws, pending := s.pending }

/-- POWER_ON_RESET (R175). -/
def execPowerOnReset (straps : BitVec 6) (time : Nat) (s : State) : Host.Outcome State Fault Refusal :=
  .next (powerOn straps time s)

end Sys2Proof.Machine
end

