-- ==== Sys2Proof/Machine/Dispatch.lean ====
section
/-! DEFINITION. One arm for each command, calling its meaning. -/

namespace Sys2Proof.Machine

/-- The effect of a command on everything but the queue. -/
def exec (i : Instr) (s : State) : Host.Outcome State Fault Refusal :=
  match i with
  | .powerOnReset straps time => Sys2Proof.Machine.execPowerOnReset straps time s
  | .frameArrival time frame => Sys2Proof.Machine.execFrameArrival time frame s
  | .watchExpiry => Sys2Proof.Machine.execWatchExpiry s
  | .localFrameTimerExpiry => Sys2Proof.Machine.execLocalFrameTimerExpiry s
  | .refreshTimerExpiry => Sys2Proof.Machine.execRefreshTimerExpiry s
  | .windowEnd => Sys2Proof.Machine.execWindowEnd s
  | .status via args => Sys2Proof.Machine.execStatus via args s
  | .read via args => Sys2Proof.Machine.execRead via args s
  | .write via args => Sys2Proof.Machine.execWrite via args s
  | .loadOpen via args => Sys2Proof.Machine.execLoadOpen via args s
  | .loadData via args => Sys2Proof.Machine.execLoadData via args s
  | .loadClose via args => Sys2Proof.Machine.execLoadClose via args s
  | .commit via args => Sys2Proof.Machine.execCommit via args s
  | .cancel via args => Sys2Proof.Machine.execCancel via args s
  | .hush via args => Sys2Proof.Machine.execHush via args s
  | .resume via args => Sys2Proof.Machine.execResume via args s
  | .guardClear via args => Sys2Proof.Machine.execGuardClear via args s
  | .surveyStart via args => Sys2Proof.Machine.execSurveyStart via args s
  | .surveyStop via args => Sys2Proof.Machine.execSurveyStop via args s
  | .faultClear via args => Sys2Proof.Machine.execFaultClear via args s
  | .restart via args => Sys2Proof.Machine.execRestart via args s
  | .loadTimeout => Sys2Proof.Machine.execLoadTimeout s
  | .forgivenessExpiry detector => Sys2Proof.Machine.execForgivenessExpiry detector s
  | .recoveryExpiry group => Sys2Proof.Machine.execRecoveryExpiry group s
  | .trip detector => Sys2Proof.Machine.execTrip detector s
  | .fadeTargetAction => Sys2Proof.Machine.execFadeTargetAction s
  | .fadeInComplete => Sys2Proof.Machine.execFadeInComplete s
  | .levelFinish => Sys2Proof.Machine.execLevelFinish s
  | .decayFinish => Sys2Proof.Machine.execDecayFinish s

end Sys2Proof.Machine
end

