-- ==== Sys2Proof/Safety.lean ====
section
/-! DEFINITION. The terms in which statements speak: when a message can be taken and what it leaves in the Command
Unit, and the invariants of the blocks. -/

namespace Sys2Proof.Machine

/-! ### Messages -/

/-- The row of a command. -/
def Command.row : Command → Addressee → List Word → Instr
  | .status, via, args => .status via args
  | .read, via, args => .read via args
  | .write, via, args => .write via args
  | .loadOpen, via, args => .loadOpen via args
  | .loadData, via, args => .loadData via args
  | .loadClose, via, args => .loadClose via args
  | .commit, via, args => .commit via args
  | .cancel, via, args => .cancel via args
  | .hush, via, args => .hush via args
  | .resume, via, args => .resume via args
  | .guardClear, via, args => .guardClear via args
  | .surveyStart, via, args => .surveyStart via args
  | .surveyStop, via, args => .surveyStop via args
  | .faultClear, via, args => .faultClear via args
  | .restart, via, args => .restart via args

/-- A message sent `via` can be taken whole, with no partial message before it: the receiver is LOCKED or
FLYWHEEL, and for an addressed message the part has a node address and holds no reply (R155, R156). -/
def Ready (via : Addressee) (s : State) : Prop :=
  cellsReach s.rrx.lock = true ∧ s.cmu.assembly = none ∧
    (via = .addressed → s.cmu.nodeAddress.isSome = true ∧ s.cmu.unit ≠ .replying)

/-- The message record a completed message leaves (R157). -/
def withRecord (c : Command) (args : List Word) (k : Cmu) : Cmu :=
  { k with words := headerWord c args :: args, overflow := false, damaged := false }

/-- The state after a message has been answered, `t` being the state after the command's own action: an addressed
message leaves its reply and REPLYING, a broadcast leaves no reply (R159, R163, R165, R168). -/
def answered (via : Addressee) (c : Command) (args : List Word) (status : Status) (data : List Word)
    (t : State) : State :=
  match via, t.cmu.nodeAddress with
  | .addressed, some a =>
    { t with cmu := { withRecord c args t.cmu with
      unit := .replying, replyBuffer := replyCells (replyHeader t a status c.code) data
      headerHeld := true, overrun := false } }
  | .addressed, none => t
  | .broadcast, _ =>
    { t with cmu := { withRecord c args t.cmu with
      unit := if t.cmu.unit = .replying then .replying else .idle } }

/-! ### Invariants -/

/-- A stored LINES entry that R33 accepts. -/
def lineOk (w : Word) : Prop := rowsOf w ≤ 128 ∧ baseOf w + rowsOf w ≤ 4096

/-- The stored LINES table passes R33, the geometry in force lies in the delay memory with no two enabled lines on
one row (R34), and every line's write position and fill count lie in their ranges (R36). -/
def LinesInv (s : State) : Prop :=
  (∀ i, lineOk (s.tables.lines.get i)) ∧
  (∀ i j, i ≠ j → regionsMeet (s.tables.lines.get i) (s.tables.lines.get j) = false) ∧
  (∀ i, (s.lines.get i).rows ≤ 128 ∧ Line.fits (s.lines.get i).base (s.lines.get i).rows = true) ∧
  (∀ i j, i ≠ j → (s.lines.get i).rows ≠ 0 → (s.lines.get j).rows ≠ 0 →
    (s.lines.get i).base + (s.lines.get i).rows ≤ (s.lines.get j).base ∨
    (s.lines.get j).base + (s.lines.get j).rows ≤ (s.lines.get i).base) ∧
  (∀ i, (s.lines.get i).fill ≤ (s.lines.get i).length ∧
    ((s.lines.get i).rows = 0 → (s.lines.get i).wp = 0) ∧
    ((s.lines.get i).rows ≠ 0 → (s.lines.get i).wp < (s.lines.get i).length))

/-- The delay memory is in its canonical form and holds only words that exist. -/
def MemoryInv (s : State) : Prop :=
  Memory.wf s.memory = true ∧ ∀ c ∈ s.memory, c.address < 4194304

/-- The output queue holds one entry while a window runs and two between windows (R126). -/
def QueueInv (s : State) : Prop := s.ios.queue.length = if s.inWindow then 1 else 2

/-- The stored and in-force RINGSET records lie in their ranges (R134). -/
def ringOk (r : RingRecord) : Prop := 1 ≤ r.tolerance ∧ r.tolerance ≤ 15 ∧ 4 ≤ r.acquire ∧ r.acquire ≤ 255

/-- The receiver: P in 461..563 (R135), the watch running exactly in LOCKED and FLYWHEEL (R137), the local frame
timer running exactly in SEARCHING and ACQUIRING (R138), and the counts in their ranges. -/
def ReceiverInv (s : State) : Prop :=
  ringOk (ringOf s.tables.ringset) ∧ ringOk s.rrx.ringset ∧
  461 ≤ s.rrx.period ∧ s.rrx.period ≤ 563 ∧
  s.rrx.watch.isSome = cellsReach s.rrx.lock ∧
  s.rrx.localTimer.isSome = !cellsReach s.rrx.lock ∧
  s.rrx.goodCount ≤ 255 ∧ s.rrx.badCount ≤ 15 ∧ (s.rrx.lock ≠ .flywheel → s.rrx.badCount = 0)

/-- The fade target is one that swaps. -/
def swapTarget (t : Option FadeTarget) : Bool := t == some .swapFadeIn || t == some .swapHold

/-- The scene: a fade target in FADE_OUT alone, ρ = 0 in HELD (R70), the shadow lock exactly where R77 has it, a due
swap only while a window runs (R76), and the loader never OPEN while the shadow bank is locked (R77), so that a load
goes into the shadow bank throughout. -/
def SceneInv (s : State) : Prop :=
  (s.scc.target.isSome = true ↔ s.scc.scene = .fadeOut) ∧
  (s.scc.scene = .held → s.scc.ramp = 0) ∧
  s.scc.shadowLocked = (s.scc.scene == .armed || swapTarget s.scc.target || s.scc.swapDue) ∧
  (s.scc.swapDue = true →
    s.inWindow = true ∧ s.scc.scene ≠ .armed ∧ swapTarget s.scc.target = false) ∧
  (s.tld.isOpen = true → s.scc.shadowLocked = false ∧ s.tld.bank = s.scc.active.other)

/-- The Command Unit: the unit state agrees with the reply buffer and the assembly (R156 to R160), and the record and
the buffer hold at most what R157 and R165 allow. -/
def UnitInv (s : State) : Prop :=
  (s.cmu.unit = .replying ↔ s.cmu.replyBuffer ≠ []) ∧
  (s.cmu.unit = .assembling → s.cmu.assembly.isSome = true) ∧
  (s.cmu.unit = .idle → s.cmu.assembly = none) ∧
  (s.cmu.assembly = some .addressed → s.cmu.unit = .assembling ∧ s.cmu.nodeAddress.isSome = true) ∧
  s.cmu.words.length ≤ 63 ∧ s.cmu.replyBuffer.length ≤ 64

/-- Refresh: at most 7 requests wait (R66), and the timer runs exactly while refresh is enabled in force (R50). -/
def RefreshInv (s : State) : Prop :=
  s.dmc.pendingRefresh ≤ 7 ∧ s.dmc.refreshDue.isSome = s.dmc.timing.refreshOn

/-- The memory budget (R63): the records meet R49, and the spend of a window, with the bus reserve while it runs,
never exceeds the frame budget in force. -/
def BudgetInv (s : State) : Prop :=
  (timingOf s.tables.timing).acceptable = true ∧ s.dmc.timing.acceptable = true ∧
  s.dmc.spend + (if s.inWindow then s.dmc.timing.reserve (enabledBuses s.lines) else 0) ≤ s.dmc.timing.budget

/-- One guard group: an acceptable entry, a target at or below its floor unless it is MUTE (R107), an applied index
in 0..61 and a recovery timer below its limit. -/
def groupOk (g : Group) : Prop :=
  badGroup g.entry = false ∧ (g.target = mute ∨ g.target ≤ g.entry.floor) ∧ g.applied ≤ mute ∧
  g.timer < g.entry.recovery * 256

/-- One detector: the counts and timers below their limits, all 0 where it is disabled, and the envelopes in
0..2^46. -/
def detectorOk (d : Detector) : Prop :=
  badDetector d.entry = false ∧ d.fast ≤ 2 ^ 46 ∧ d.slow ≤ 2 ^ 46 ∧ d.total ≤ 65535 ∧
  d.debounce ≤ d.entry.debounceWindows ∧ d.trips < d.entry.tripLimit ∧
  (d.entry.enable = true → d.forgive < d.entry.forgiveness * 1024) ∧
  (d.entry.enable = false → d.fast = 0 ∧ d.slow = 0 ∧ d.debounce = 0 ∧ d.trips = 0 ∧ d.forgive = 0)

/-- The guard: stored entries that R93 accepts, and every detector and group in its ranges. -/
def GuardInv (s : State) : Prop :=
  (∀ i, badDetector (detectorOf (s.tables.detectors.get i)) = false) ∧
  (∀ i, badGroup (groupOf (s.tables.groups.get i)) = false) ∧
  (∀ i, detectorOk (s.sgd.detectors.get i)) ∧ (∀ i, groupOk (s.sgd.groups.get i))

/-- Entries of the table a load names. -/
def BankTable.entries : BankTable → Nat
  | .header => 1
  | .taps => 1024
  | .mods => 32

/-- The loader: CLOSED leaves no partial entry, R = 0 and a stopped timer; OPEN has a run that stays inside its
table, at most two words of a partial entry, and an idle timer below its limit (R185 to R191). -/
def LoaderInv (s : State) : Prop :=
  (s.tld.isOpen = false → s.tld.partialWords = [] ∧ s.tld.remaining = 0 ∧ s.tld.idle = none) ∧
  (s.tld.isOpen = true →
    s.tld.partialWords.length < 3 ∧ s.tld.next < s.tld.table.entries ∧
    (s.tld.direction = .descending → s.tld.remaining ≤ s.tld.next) ∧
    (s.tld.direction ≠ .descending → s.tld.next + s.tld.remaining < s.tld.table.entries) ∧
    ∃ n, s.tld.idle = some n ∧ n < s.tld.timeout * 1024)

/-- A survey configuration that R194 accepts. -/
def configOk (c : SurveyConfig) : Prop :=
  6 ≤ c.exponent ∧ c.exponent ≤ 18 ∧ groupFits c.mode c.group = true ∧ c.start + c.group ≤ 88 ∧
  (c.mode = .decay → c.trigger ≠ .now)

/-- The survey: IDLE has no configuration, start or trigger; a pending start waits; a measurement that runs has an
acceptable configuration, a channel in 0..87, fewer than 2^k windows, and sums in their ranges (R194 to R203). -/
def SurveyInv (s : State) : Prop :=
  (∀ c, s.svu.config = some c → configOk c) ∧ (∀ c, s.svu.startPending = some c → configOk c) ∧
  (∀ c, s.svu.config = some c → c.trigger = .now → s.svu.triggerPending = false) ∧
  (s.svu.state = .idle →
    s.svu.config = none ∧ s.svu.startPending = none ∧ s.svu.triggerPending = false) ∧
  (s.svu.startPending.isSome = true → s.svu.state = .waiting ∧ s.svu.config = none) ∧
  (s.svu.state = .waiting → s.svu.startPending.isSome = true ∨ s.svu.config.isSome = true) ∧
  (s.svu.state = .measuring → ∃ c, s.svu.config = some c ∧ s.svu.counter < 2 ^ c.exponent ∧
    s.svu.position < c.group ∧ s.svu.sum ≤ s.svu.counter * 2 ^ 46 ∧ s.svu.peak ≤ 8388608) ∧
  s.svu.envelope ≤ 2 ^ 46

end Sys2Proof.Machine
end

