-- ==== Sys2Proof/WellFormed.lean ====
section
/-! DEFINITION. What makes a command a command the ring or the controller can deliver. -/

namespace Sys2Proof

/-- A frame starts with the fixed pattern, and a cut frame ends before the end of its check: 3110 checked bits
and 16 check bits follow the sync (R132, R206). -/
def Frame.wellFormed (f : Frame) : Bool :=
  f.sync == syncPattern &&
    match f.cut with
    | none => true
    | some n => n < 3126

/-- A message record holds a header and at most 62 arguments (R157); a row whose arguments would not fit is
no message of that command. (The overflow itself is reached through the cells of frames.) -/
def argsFit (args : List Word) : Bool := args.length ≤ 62

/-- The checks, one arm per command. -/
def Instr.wellFormed : Instr → Bool
  | .powerOnReset _ _ => true
  | .frameArrival _ f => f.wellFormed
  | .watchExpiry => true
  | .localFrameTimerExpiry => true
  | .refreshTimerExpiry => true
  | .windowEnd => true
  | .status _ a => argsFit a
  | .read _ a => argsFit a
  | .write _ a => argsFit a
  | .loadOpen _ a => argsFit a
  | .loadData _ a => argsFit a
  | .loadClose _ a => argsFit a
  | .commit _ a => argsFit a
  | .cancel _ a => argsFit a
  | .hush _ a => argsFit a
  | .resume _ a => argsFit a
  | .guardClear _ a => argsFit a
  | .surveyStart _ a => argsFit a
  | .surveyStop _ a => argsFit a
  | .faultClear _ a => argsFit a
  | .restart _ a => argsFit a
  | .loadTimeout => true
  | .forgivenessExpiry _ => true
  | .recoveryExpiry _ => true
  | .trip _ => true
  | .fadeTargetAction => true
  | .fadeInComplete => true
  | .levelFinish => true
  | .decayFinish => true

end Sys2Proof
end

