-- ==== Sys2Proof/Certificates/Slice0/Obligations.lean ====
section
/-! DEFINITION. The statements put to the provers: what the rules of spec/ say each command and the machine do. -/

open Sys2Proof Sys2Proof.Machine

/-! ### The machine -/

/-- A step runs the front command of the queue with the queue's rest; on an empty queue the block idles, which is the
model's choice (notes: assumption 1). -/
def Obligations.StepRunsTheFrontCommand : Prop :=
  (∀ (c : Instr) (rest : List Instr) (s : State), s.pending = c :: rest →
    step s = exec c { s with pending := rest }) ∧
  (∀ s : State, s.pending = [] → step s = .next s)

/-- Every command completes wherever every line lies in the delay memory, none is ever refused, the one fault there is
comes of a line that does not (R31, R33; notes: assumption 16), and no command touches the queue (notes: assumption 1).
-/
def Obligations.EveryCommandCompletes : Prop :=
  ∀ (c : Instr) (s : State),
    (rowsExist s = true → ∃ t, exec c s = .next t) ∧ (∀ r, exec c s ≠ .refused r) ∧
    (∀ f, exec c s = .fault f → f = .absentRow ∧ rowsExist s = false) ∧
    (∀ t, exec c s = .next t → t.pending = s.pending)

/-! ### Reset -/

/-- POWER_ON_RESET gives every block the values of its chapter's state table (R154, R175, R44, R66, R88, R112, R180,
R185, R204), samples the straps (R156), and leaves the queue. -/
def Obligations.PowerOnResetSetsEveryBlock : Prop :=
  ∀ (straps : BitVec 6) (time : Nat) (s : State), ∃ t, exec (.powerOnReset straps time) s = .next t ∧
    (t.rrx.lock = .searching ∧ t.rrx.period = 512 ∧ t.rrx.goodCount = 0 ∧ t.rrx.badCount = 0 ∧
      t.rrx.prevNumber = 0 ∧ t.rrx.firstPending = false ∧ t.rrx.watch = none ∧
      t.rrx.localTimer = some (time + 512) ∧ t.rrx.lastStart = time ∧ (∀ i, t.rrx.heldFrame.get i = 0) ∧
      t.rrx.ringset = ⟨3, 16⟩ ∧ t.rrx.badFrames = 0 ∧ t.rrx.missingFrames = 0 ∧ t.rrx.slips = 0 ∧
      t.rrx.lockLosses = 0) ∧
    (t.rtx.mode = .originate ∧ t.rtx.number = 255) ∧
    (t.cmu.unit = .idle ∧ t.cmu.assembly = none ∧ t.cmu.words = [] ∧ t.cmu.replyBuffer = [] ∧
      t.cmu.overrun = false ∧ t.cmu.shedNote = false ∧ t.cmu.restartPending = false ∧ t.cmu.overruns = 0 ∧
      t.cmu.truncated = 0 ∧ t.cmu.damagedCount = 0 ∧ t.cmu.fault = none ∧ t.cmu.laterCount = 0 ∧
      t.cmu.nodeAddress.map Fin.val = if straps.toNat < 63 then some straps.toNat else none) ∧
    ((∀ n, (t.tables.bank n).header.words = [0, 0, 0]) ∧
      (∀ n i, ((t.tables.bank n).taps.get i).words = [0, 0, 0]) ∧
      (∀ n i, ((t.tables.bank n).mods.get i).words = [0, 0, 0]) ∧
      (∀ i, t.tables.inputs.get i = 0x0000FF) ∧ (∀ i, t.tables.outputs.get i = 0x0000FF) ∧
      (∀ i, t.tables.lines.get i = 0) ∧ (∀ i, (t.tables.detectors.get i).words = [0, 0]) ∧
      (∀ i, t.tables.groups.get i = 0x008283) ∧ t.tables.timing.words = [0x604CB0, 0x00000F] ∧
      t.tables.ringset = 0x000103 ∧ (∀ i, (t.tables.results.get i).words = [0, 0, 0])) ∧
    (t.tld.isOpen = false ∧ t.tld.remaining = 0 ∧ t.tld.partialWords = [] ∧ t.tld.idle = none ∧
      t.tld.next = 0 ∧ t.tld.direction = .ascending) ∧
    (∀ i, (t.lines.get i).base = 0 ∧ (t.lines.get i).rows = 0 ∧ (t.lines.get i).wp = 0 ∧
      (t.lines.get i).fill = 0) ∧
    (t.dmc.timing = timingOf t.tables.timing ∧ t.dmc.openRow = none ∧ t.dmc.direction = none ∧ t.dmc.spend = 0 ∧
      t.dmc.pendingRefresh = 0 ∧ t.dmc.refreshDue = some (4 * time + 15 * 98) ∧ t.dmc.refreshOverruns = 0 ∧
      t.dmc.shedLast = 0 ∧ t.dmc.shedWorst = 0 ∧ t.dmc.shedWindows = 0) ∧
    ((∀ i, t.tpe.held.get i = 0) ∧ (∀ i, t.tpe.outs.get i = 0) ∧ (∀ i, t.tpe.buses.get i = 0) ∧
      (∀ i, t.tpe.phases.get i = 0) ∧ t.tpe.busClips = 0) ∧
    ((∀ i, t.ios.inputs.get i = ⟨none, 0, false⟩) ∧ (∀ i, t.ios.outputs.get i = ⟨none, 0⟩) ∧
      (∀ i, t.ios.inApplied.get i = 0) ∧ (∀ i, t.ios.outApplied.get i = 0) ∧ t.ios.outClips = 0 ∧
      t.ios.queue.length = 2 ∧ (∀ e ∈ t.ios.queue, ∀ j, (e.get j).slot = none)) ∧
    (t.scc.scene = .held ∧ t.scc.ramp = 0 ∧ t.scc.target = none ∧ t.scc.active = .a ∧
      t.scc.shadowLocked = false ∧ t.scc.swapDue = false ∧ t.scc.swaps = 0 ∧ t.scc.windowState = .held) ∧
    ((∀ i, (t.sgd.detectors.get i).entry.enable = false ∧ (t.sgd.detectors.get i).fast = 0 ∧
        (t.sgd.detectors.get i).slow = 0 ∧ (t.sgd.detectors.get i).debounce = 0 ∧
        (t.sgd.detectors.get i).trips = 0 ∧ (t.sgd.detectors.get i).forgive = 0 ∧
        (t.sgd.detectors.get i).flag = false ∧ (t.sgd.detectors.get i).total = 0) ∧
      (∀ i, t.sgd.groups.get i = ⟨⟨3, 40, 32⟩, 0, 0, 0⟩) ∧ t.sgd.clearDetectors = 0 ∧ t.sgd.clearGroups = 0) ∧
    (t.svu.state = .idle ∧ t.svu.config = none ∧ t.svu.startPending = none ∧ t.svu.triggerPending = false ∧
      t.svu.position = 0 ∧ t.svu.counter = 0 ∧ t.svu.sum = 0 ∧ t.svu.peak = 0 ∧ t.svu.envelope = 0 ∧
      t.svu.reference = none ∧ t.svu.t20 = none ∧ t.svu.t30 = none ∧ t.svu.sequence = 0) ∧
    t.inWindow = false ∧ t.pending = s.pending

/-- The machine right after reset meets the invariant of every block. -/
def Obligations.ResetMeetsEveryInvariant : Prop :=
  LinesInv State.reset ∧ MemoryInv State.reset ∧ QueueInv State.reset ∧ ReceiverInv State.reset ∧
  SceneInv State.reset ∧ UnitInv State.reset ∧ RefreshInv State.reset ∧ BudgetInv State.reset ∧
  GuardInv State.reset ∧ LoaderInv State.reset ∧ SurveyInv State.reset

/-! ### Messages in general -/

/-- What a message meets in the Command Unit. A row sent out of lock, and an addressed row sent to a part without a node
address, change nothing, with a partial message in progress too: that is the model's choice for a message row (notes:
assumption 3; R155, R156). An addressed message that meets a reply still held is dropped, counted and noted (R156,
R168); and a SELECT that meets a partial message discards it and counts it, and its own message is taken as if there had
been none (R156). -/
def Obligations.MessagesMeetTheUnitState : Prop :=
  ∀ (c : Command) (args : List Word) (s : State),
    (∀ via, cellsReach s.rrx.lock = false → exec (c.row via args) s = .next s) ∧
    (s.cmu.nodeAddress = none → exec (c.row .addressed args) s = .next s) ∧
    (cellsReach s.rrx.lock = true → s.cmu.nodeAddress.isSome = true → s.cmu.unit = .replying →
      s.cmu.assembly = none → exec (c.row .addressed args) s = .next { s with cmu := { s.cmu with
        overruns := min (s.cmu.overruns + 1) 65535, overrun := true } }) ∧
    (∀ via, cellsReach s.rrx.lock = true → s.cmu.assembly.isSome = true →
      (via = .addressed → s.cmu.nodeAddress.isSome = true) →
      exec (c.row via args) s =
        exec (c.row via args) { s with cmu := { s.cmu with
          assembly := none, truncated := min (s.cmu.truncated + 1) 65535 } })

/-- A message with an argument count its command does not accept is refused with LENGTH (R161, check 5), and a broadcast
of a command that may not be broadcast is discarded (check 4, R163); the codes, the counts and the broadcast column are
those of the table of R162, and a WRITE carries one or more whole entries of its table. That a WRITE of one argument
with a table id of 11 or above is LENGTH too is the model's choice (notes: assumption 13). -/
def Obligations.WrongMessagesHaveNoEffect : Prop :=
  (∀ (c : Command) (via : Addressee) (args : List Word) (s : State), Ready via s → args.length ≤ 62 →
    (c.accepts args = false → (via = .broadcast → c.mayBroadcast = true) →
      exec (c.row via args) s = .next (answered via c args .length [] s)) ∧
    (via = .broadcast → c.mayBroadcast = false →
      exec (c.row via args) s = .next (answered .broadcast c args .ok [] s))) ∧
  (∀ row ∈ [(Command.status, 0x01, 1, 1, false), (.read, 0x02, 2, 2, false), (.loadOpen, 0x10, 2, 2, false),
      (.loadData, 0x11, 1, 62, false), (.loadClose, 0x12, 0, 0, false), (.commit, 0x20, 1, 1, true),
      (.cancel, 0x21, 0, 0, true), (.hush, 0x22, 0, 0, true), (.resume, 0x23, 0, 0, true),
      (.guardClear, 0x30, 2, 2, true), (.surveyStart, 0x40, 2, 2, true), (.surveyStop, 0x41, 0, 0, false),
      (.faultClear, 0x50, 0, 0, false), (.restart, 0x5A, 0, 0, true)],
    ∀ args : List Word, row.1.code = row.2.1 ∧ row.1.mayBroadcast = row.2.2.2.2 ∧
      (row.1.accepts args = true ↔ row.2.2.1 ≤ args.length ∧ args.length ≤ row.2.2.2.1)) ∧
  (Command.write.code = 0x03 ∧ Command.write.mayBroadcast = false ∧ Command.write.accepts [] = false ∧
    ∀ (a : Word) (rest : List Word), Command.write.accepts (a :: rest) = true ↔
      1 ≤ rest.length ∧ rest.length ≤ 61 ∧
        ∀ width, [3, 3, 3, 1, 1, 1, 2, 1, 2, 1, 3][field a 23 20]? = some width → rest.length % width = 0)

/-! ### The commands -/

/-- STATUS answers the status record, clears the shed note after its header has been formed, and zeroes the event
counters when its clear argument is 1; another code is RANGE (R167, R170, R171). FAULT-CLEAR empties the fault record,
reports it as it stood, and changes nothing else (R173, R208). -/
def Obligations.StatusAndFaultClearReport : Prop :=
  (∀ (w : Word) (s : State), Ready .addressed s →
    (field w 1 0 = 0 → exec (.status .addressed [w]) s =
      .next (let t := answered .addressed .status [w] .ok (statusRecord s) s
        { t with cmu := { t.cmu with shedNote := false } })) ∧
    (field w 1 0 = 1 → exec (.status .addressed [w]) s =
      .next (let t := answered .addressed .status [w] .ok (statusRecord s) { s with
          rrx := { s.rrx with badFrames := 0, missingFrames := 0, slips := 0, lockLosses := 0 }
          cmu := { s.cmu with overruns := 0, truncated := 0, damagedCount := 0 }
          dmc := { s.dmc with shedWorst := 0, shedWindows := 0, refreshOverruns := 0 }
          tpe := { s.tpe with busClips := 0 }
          ios := { s.ios with outClips := 0 }
          sgd := { s.sgd with detectors := s.sgd.detectors.map fun d => { d with total := 0 } } }
        { t with cmu := { t.cmu with shedNote := false } })) ∧
    (2 ≤ field w 1 0 → exec (.status .addressed [w]) s =
      .next (answered .addressed .status [w] .range [] s))) ∧
  (∀ s : State, Ready .addressed s →
    exec (.faultClear .addressed []) s =
      .next (answered .addressed .faultClear [] .ok [faultWord s.cmu]
        { s with cmu := { s.cmu with fault := none, laterCount := 0 } }))

/-- The status record: 44 words, each field in the place R211 gives it and every other bit 0, for every value in the
ranges of the chapters; and the reply header: the address, the status code, the six notes and the echoed code in the
places of R207, each note as R167 has it, with the status codes of R161; and the codes of the states and the fault kinds
are those of R208 and R211. -/
def Obligations.StatusRecordLayout : Prop :=
  ∀ s : State, (statusRecord s).length = 44 ∧
    (s.rrx.period < 1024 → (statusWord0 s).toNat =
      s.rrx.lock.code + 4 * s.scc.scene.code + (if s.scc.active = .b then 32 else 0) +
        (if s.tld.isOpen then 64 else 0) + 256 * s.svu.state.code + 1024 * s.rrx.period) ∧
    (statusRecord s)[0]? = some (statusWord0 s) ∧
    (s.scc.ramp < 32768 → ((statusRecord s)[1]?).map BitVec.toNat = some s.scc.ramp) ∧
    (s.scc.swaps < 65536 → ((statusRecord s)[2]?).map BitVec.toNat = some s.scc.swaps) ∧
    (s.tld.remaining < 1024 → s.dmc.shedLast < 2048 →
      ((statusRecord s)[3]?).map BitVec.toNat = some (s.tld.remaining + 1024 * s.dmc.shedLast)) ∧
    (s.dmc.shedWorst < 2048 → ((statusRecord s)[4]?).map BitVec.toNat = some s.dmc.shedWorst) ∧
    (∀ k v, (k, v) ∈ [(5, s.dmc.shedWindows), (6, s.rrx.badFrames), (7, s.rrx.missingFrames), (8, s.rrx.slips),
        (9, s.rrx.lockLosses), (10, s.cmu.overruns), (11, s.cmu.truncated), (12, s.cmu.damagedCount),
        (13, s.dmc.refreshOverruns), (14, s.tpe.busClips), (15, s.ios.outClips)] → v < 65536 →
      ((statusRecord s)[k]?).map BitVec.toNat = some v) ∧
    (∀ w, (statusRecord s)[17]? = some w → ∀ i : Fin 24, w.getLsbD i.val = (s.sgd.detectors.get i).flag) ∧
    ((statusRecord s)[16]? = some (faultWord s.cmu)) ∧
    (∀ f, s.cmu.fault = some f → s.cmu.laterCount < 256 → f.detail < 16 →
      (faultWord s.cmu).toNat = 8388608 + 1048576 * f.kind.code + 4096 * s.cmu.laterCount + 16 * f.number.toNat +
        f.detail) ∧
    (s.cmu.fault = none → s.cmu.laterCount < 256 → (faultWord s.cmu).toNat = 4096 * s.cmu.laterCount) ∧
    ((∀ g, (s.sgd.groups.get g).applied < 64) →
      ((statusRecord s)[18]?).map BitVec.toNat = some ((s.sgd.groups.get 0).applied +
        64 * (s.sgd.groups.get 1).applied + 4096 * (s.sgd.groups.get 2).applied +
        262144 * (s.sgd.groups.get 3).applied) ∧
      ((statusRecord s)[19]?).map BitVec.toNat = some ((s.sgd.groups.get 4).applied +
        64 * (s.sgd.groups.get 5).applied + 4096 * (s.sgd.groups.get 6).applied +
        262144 * (s.sgd.groups.get 7).applied)) ∧
    (∀ i : Fin 24, (s.sgd.detectors.get i).total < 65536 →
      ((statusRecord s)[20 + i.val]?).map BitVec.toNat = some (s.sgd.detectors.get i).total) ∧
    (∀ (address : Fin 63) (status : Status) (code : Nat), code < 256 →
      (replyHeader s address status code).toNat =
        code + (if s.cmu.overrun then 256 else 0) + (if s.cmu.fault.isSome then 512 else 0) +
          (if ∃ i, (s.sgd.detectors.get i).flag = true then 1024 else 0) + (if s.cmu.shedNote then 2048 else 0) +
          (if s.scc.scene = .steady then 0 else 4096) + (if s.tld.isOpen then 8192 else 0) + 16384 * status.code +
          262144 * address.val) ∧
    [Status.ok, .busy, .state, .range, .length, .unknown, .damaged].map Status.code = [0, 1, 2, 3, 4, 5, 6] ∧
    [LockState.searching, .acquiring, .locked, .flywheel].map LockState.code = [0, 1, 2, 3] ∧
    [SceneState.steady, .armed, .fadeOut, .held, .fadeIn].map SceneState.code = [0, 1, 2, 3, 4] ∧
    [SurveyState.idle, .waiting, .measuring].map SurveyState.code = [0, 1, 2] ∧
    [FaultKind.refreshOverrun, .lockLost, .guardCut, .busClip, .loadTimeout].map FaultKind.code = [0, 1, 2, 3, 4]

/-- READ answers the stored words of its run in order and changes nothing else; a table id of 11 or above, a run that
does not fit its table and a run of more than 62 words are RANGE (R182). -/
def Obligations.ReadReturnsStoredWords : Prop :=
  ∀ (a b : Word) (s : State), Ready .addressed s →
    (tableEntries (argTable a) = none →
      exec (.read .addressed [a, b]) s = .next (answered .addressed .read [a, b] .range [] s)) ∧
    (∀ entries, tableEntries (argTable a) = some entries →
      (argCount b = 0 ∨ 1024 < argCount b ∨ entries < argStart a + argCount b ∨
        62 < argCount b * tableWidth (argTable a) →
        exec (.read .addressed [a, b]) s = .next (answered .addressed .read [a, b] .range [] s)) ∧
      (1 ≤ argCount b → argStart a + argCount b ≤ entries →
        argCount b * tableWidth (argTable a) ≤ 62 →
        ∃ data : List Word,
          exec (.read .addressed [a, b]) s = .next (answered .addressed .read [a, b] .ok data s) ∧
          data.length = argCount b * tableWidth (argTable a) ∧
          ∀ j k, j < argCount b → k < tableWidth (argTable a) →
            data[j * tableWidth (argTable a) + k]? =
              (s.tables.entryWords (selectedBank s (argShadow a)) (argTable a) (argStart a + j))[k]?))

/-- WRITE is judged in the order of R183, a refusal stores nothing and names the index R165 and R184 give, and an
accepted WRITE stores its whole run and nothing else. -/
def Obligations.WriteStoresOrRefuses : Prop :=
  ∀ (a : Word) (ws : List Word) (s : State), Ready .addressed s → writeCountFits (a :: ws) = true →
    let id := argTable a
    let start := argStart a
    let entries := entriesOf (tableWidth id) ws
    let size := (tableEntries id).getD 0
    let result := s.tables.storeRun (shadowName s) id start entries
    let reply := fun (status : Status) (data : List Word) (t : State) =>
      exec (.write .addressed (a :: ws)) s = .next (answered .addressed .write (a :: ws) status data t)
    (10 ≤ id → reply .range [BitVec.ofNat 24 start] s) ∧
    (id ≤ 2 → argShadow a = false → reply .state [] s) ∧
    (id ≤ 2 → argShadow a = true → s.scc.shadowLocked = true ∨ s.tld.isOpen = true → reply .busy [] s) ∧
    (3 ≤ id ∨ (argShadow a = true ∧ s.scc.shadowLocked = false ∧ s.tld.isOpen = false) → id < 10 →
      (size < start + entries.length → reply .range [BitVec.ofNat 24 (max start size)] s) ∧
      (start + entries.length ≤ size →
        (∀ j < entries.length, badEntry result start entries.length id (start + j) = true →
          (∀ k < j, badEntry result start entries.length id (start + k) = false) →
          reply .range [BitVec.ofNat 24 (start + j)] s) ∧
        ((∀ j < entries.length, badEntry result start entries.length id (start + j) = false) →
          reply .ok [] { s with tables := result })))

/-- The owners' tests of a WRITE, on the table that would result: an INPUTS or OUTPUTS entry is bad with a trim target
of 62 or 63 (R117); a LINES entry above 128 rows, past row 4096, or sharing a row with another entry that the run does
not write or writes at a lower index (R33); a DETECTORS entry with enable on and action code 3, a threshold above 96 or
forgiveness 0, a GROUPS entry with a step outside 1 to 12, a floor above 60 or recovery 0 (R93); the TIMING entry out of
its ranges or with M above the frame budget (R49); the RINGSET entry with tolerance 0 or an acquire count below 4
(R134); and no entry of a bank table (R183). -/
def Obligations.OwnersTestTheirEntries : Prop :=
  ∀ (t : Tables) (start n : Nat),
    (∀ i : Fin 24, badEntry t start n 3 i.val = true ↔ 62 ≤ field (t.inputs.get i) 13 8) ∧
    (∀ i : Fin 48, badEntry t start n 4 i.val = true ↔ 62 ≤ field (t.outputs.get i) 13 8) ∧
    (∀ i : Fin 40,
      let base := fun k : Fin 40 => field (t.lines.get k) 11 0
      let rows := fun k : Fin 40 => field (t.lines.get k) 19 12
      badEntry t start n 5 i.val = true ↔ 128 < rows i ∨ 4096 < base i + rows i ∨
        ∃ k : Fin 40, k ≠ i ∧ (k.val < start ∨ start + n ≤ k.val ∨ k.val < i.val) ∧
          ∃ row, base i ≤ row ∧ row < base i + rows i ∧ base k ≤ row ∧ row < base k + rows k) ∧
    (∀ i : Fin 24, let d := t.detectors.get i
      badEntry t start n 6 i.val = true ↔ d.w0.getLsbD 0 = true ∧
        (field d.w0 5 4 = 3 ∨ 96 < field d.w1 6 0 ∨ field d.w0 18 11 = 0)) ∧
    (∀ i : Fin 8, let g := t.groups.get i
      badEntry t start n 7 i.val = true ↔
        field g 3 0 = 0 ∨ 12 < field g 3 0 ∨ 60 < field g 9 4 ∨ field g 17 10 = 0) ∧
    (∀ i, let w := t.timing.w0
      let gap := if w.getLsbD 19 then field w 18 16 else 0
      let bound := 2 * 10 + 2 * field w 15 13 + 40 * (4 + field w 12 11 + gap)
      badEntry t start n 8 i = true ↔ field w 10 0 < 256 ∨ 1800 < field w 10 0 ∨
        field t.timing.w1 6 0 = 0 ∨ 64 < field t.timing.w1 6 0 ∨
        field w 10 0 < (if w.getLsbD 20 then 2 * bound else bound)) ∧
    (∀ i, badEntry t start n 9 i = true ↔ field t.ringset 3 0 = 0 ∨ field t.ringset 11 4 < 4) ∧
    (∀ id i, id ≤ 2 → badEntry t start n id i = false)

/-- A run stored in a table: each entry of the run reads back as written, and every other entry of every table keeps its
words (R176, R184, R209). -/
def Obligations.StoredRunReadsBack : Prop :=
  ∀ (t : Tables) (n : BankName) (id start size : Nat) (entries : List (List Word)), id < 10 →
    tableEntries id = some size → start + entries.length ≤ size →
    (∀ e ∈ entries, e.length = tableWidth id) →
    (∀ j, (h : j < entries.length) → (t.storeRun n id start entries).entryWords n id (start + j) = entries[j]) ∧
    (∀ m id' i size', tableEntries id' = some size' → i < size' →
      (m ≠ n ∧ id' ≤ 2) ∨ id' ≠ id ∨ i < start ∨ start + entries.length ≤ i →
      (t.storeRun n id start entries).entryWords m id' i = t.entryWords m id' i)

/-- LOAD-OPEN: refused with STATE while OPEN or for ACTIVE, with BUSY while the shadow bank is locked, with RANGE for a
field or a run out of range; otherwise it opens a load on the shadow bank (R186); the argument fields stand where R208
has them. A table id of 3 or more that names ACTIVE is STATE, by the order of R186 (notes: assumption 14). -/
def Obligations.LoadOpenOpensTheShadowBank : Prop :=
  ∀ (a b : Word) (s : State), Ready .addressed s →
    let reply := fun (status : Status) (t : State) =>
      exec (.loadOpen .addressed [a, b]) s = .next (answered .addressed .loadOpen [a, b] status [] t)
    (argShadow a = bit a 19 ∧ argStart a = field a 9 0 ∧ argCount b = field b 10 0 ∧ argTimeout b = field b 20 13 ∧
      argTable a = field a 23 20 ∧ bankTableOf (argTable a) = [BankTable.header, .taps, .mods][field a 23 20]? ∧
      argDirection b = [Direction.ascending, .descending, .fill][field b 12 11]? ∧
      [BankTable.header, .taps, .mods].map BankTable.entries = [1, 1024, 32]) ∧
    (s.tld.isOpen = true ∨ argShadow a = false → reply .state s) ∧
    (s.tld.isOpen = false → argShadow a = true → s.scc.shadowLocked = true → reply .busy s) ∧
    (s.tld.isOpen = false → argShadow a = true → s.scc.shadowLocked = false →
      (3 ≤ argTable a ∨ argDirection b = none ∨ argTimeout b = 0 ∨ argCount b = 0 ∨ 1024 < argCount b →
        reply .range s) ∧
      (∀ table direction, bankTableOf (argTable a) = some table → argDirection b = some direction →
        1 ≤ argTimeout b → 1 ≤ argCount b → argCount b ≤ 1024 →
        ((direction ≠ .descending ∧ table.entries < argStart a + argCount b) ∨
          (direction = .descending ∧ (table.entries ≤ argStart a ∨ argStart a + 1 < argCount b)) →
          reply .range s) ∧
        ((direction ≠ .descending ∧ argStart a + argCount b ≤ table.entries) ∨
          (direction = .descending ∧ argStart a < table.entries ∧ argCount b ≤ argStart a + 1) →
          reply .ok { s with tld :=
            { isOpen := true, bank := s.scc.active.other, table := table, next := argStart a
              remaining := argCount b - 1, direction := direction, partialWords := []
              timeout := argTimeout b, idle := some 0 } })))

/-- LOAD-DATA in CLOSED is refused with STATE. In OPEN it is accepted, it changes the loader and the bank tables alone,
it takes every word up to the one that completes the load, and its data word reports the words taken, R after them and
the completion (R187, R188, R208). The words that complete an entry with those of earlier messages, three in all, are
one entry: ASCENDING and DESCENDING write it at the next index and move on, or complete at R = 0; FILL writes it at
every index of its run and completes; fewer words wait in the partial entry (R187, R188). A longer message does what its
first words do and then, if the load is still OPEN, what the others do as a message of their own; the words after the
completion are discarded and not counted (R187), so every split of every message is said. -/
def Obligations.LoadDataTakesAndWritesWords : Prop :=
  (∀ (args : List Word) (s : State), Ready .addressed s → LoaderInv s → 1 ≤ args.length → args.length ≤ 62 →
    (s.tld.isOpen = false →
      exec (.loadData .addressed args) s = .next (answered .addressed .loadData args .state [] s)) ∧
    (s.tld.isOpen = true →
      ∃ (w : Word) (tables : Tables) (tld : Tld),
        exec (.loadData .addressed args) s =
          .next (answered .addressed .loadData args .ok [w] { s with tables := tables, tld := tld }) ∧
        (let room := (if s.tld.direction = .fill then 3 else 3 * (s.tld.remaining + 1)) - s.tld.partialWords.length
         field w 5 0 = min args.length room ∧ field w 15 6 = tld.remaining ∧ bit w 16 = !tld.isOpen ∧
         (tld.isOpen = true ↔ args.length < room)) ∧
        (tld.isOpen = true → tld.idle = some 0) ∧
        tables.inputs = s.tables.inputs ∧ tables.outputs = s.tables.outputs ∧ tables.lines = s.tables.lines ∧
        tables.detectors = s.tables.detectors ∧ tables.groups = s.tables.groups ∧
        tables.timing = s.tables.timing ∧ tables.ringset = s.tables.ringset ∧
        tables.results = s.tables.results ∧ tables.bank s.tld.bank.other = s.tables.bank s.tld.bank.other)) ∧
  (∀ (args : List Word) (a b c : Word) (s : State), Ready .addressed s → s.tld.isOpen = true → 1 ≤ args.length →
    s.tld.partialWords ++ args = [a, b, c] →
    ∃ (w : Word) (tables : Tables) (tld : Tld),
      exec (.loadData .addressed args) s =
        .next (answered .addressed .loadData args .ok [w] { s with tables := tables, tld := tld }) ∧
      field w 5 0 = args.length ∧
      (s.tld.direction ≠ .fill →
        tables = s.tables.putBank s.tld.bank
          ((s.tables.bank s.tld.bank).store s.tld.table s.tld.next ⟨a, b, c⟩) ∧
        (1 ≤ s.tld.remaining → tld = { s.tld with
          remaining := s.tld.remaining - 1, partialWords := [], idle := some 0
          next := if s.tld.direction = .ascending then s.tld.next + 1 else s.tld.next - 1 }) ∧
        (s.tld.remaining = 0 → tld = { s.tld with isOpen := false, partialWords := [], idle := none })) ∧
      (s.tld.direction = .fill →
        (∀ i size, tableEntries s.tld.table.id = some size → i < size →
          s.tld.next + s.tld.remaining < size →
          tables.entryWords s.tld.bank s.tld.table.id i =
            if s.tld.next ≤ i ∧ i ≤ s.tld.next + s.tld.remaining then [a, b, c]
            else s.tables.entryWords s.tld.bank s.tld.table.id i) ∧
        tld = { s.tld with isOpen := false, remaining := 0, partialWords := [], idle := none })) ∧
  (∀ (args : List Word) (s : State), Ready .addressed s → s.tld.isOpen = true → 1 ≤ args.length →
    (s.tld.partialWords ++ args).length ≤ 2 →
    ∃ w : Word,
      exec (.loadData .addressed args) s = .next (answered .addressed .loadData args .ok [w] { s with
        tld := { s.tld with partialWords := s.tld.partialWords ++ args, idle := some 0 } }) ∧
      field w 5 0 = args.length) ∧
  (∀ (xs ys : List Word) (s : State), Ready .addressed s → s.tld.isOpen = true → 1 ≤ xs.length → 1 ≤ ys.length →
    xs.length + ys.length ≤ 62 →
    ∃ (w v : Word) (mid last : Tables) (tldMid tldLast : Tld),
      exec (.loadData .addressed xs) s =
        .next (answered .addressed .loadData xs .ok [w] { s with tables := mid, tld := tldMid }) ∧
      exec (.loadData .addressed (xs ++ ys)) s =
        .next (answered .addressed .loadData (xs ++ ys) .ok [v] { s with tables := last, tld := tldLast }) ∧
      (tldMid.isOpen = false → last = mid ∧ tldLast = tldMid ∧ v = w) ∧
      (tldMid.isOpen = true → ∃ u : Word,
        exec (.loadData .addressed ys) { s with tables := mid, tld := tldMid } =
          .next (answered .addressed .loadData ys .ok [u] { s with tables := last, tld := tldLast }) ∧
        field w 5 0 = xs.length ∧ field v 5 0 = xs.length + field u 5 0))

/-- LOAD-CLOSE closes an OPEN loader, keeps what was written, and reports what it closed; in CLOSED it changes nothing
(R190, R208). -/
def Obligations.LoadCloseClosesTheLoader : Prop :=
  ∀ s : State, Ready .addressed s → LoaderInv s → s.tld.remaining < 1024 →
    ∃ w : Word,
      exec (.loadClose .addressed []) s =
        .next (answered .addressed .loadClose [] .ok [w] { s with tld := { s.tld with
          isOpen := false, remaining := 0, partialWords := [], idle := none } }) ∧
      w.toNat = if s.tld.isOpen then s.tld.partialWords.length + 64 * s.tld.remaining + 65536 else 0

/-- COMMIT, addressed or broadcast: STATE while the loader is OPEN, BUSY in ARMED, FADE_OUT and FADE_IN and while a swap
is due, RANGE for another mode (that a due swap makes it BUSY in STEADY too is the model's choice, notes: assumption
21); NOW fades out to a swap, AT-MARK arms, and in HELD a swap is due, which is carried out at once between windows and
waits while a window runs (R76, R78 to R80). -/
def Obligations.CommitStartsAScene : Prop :=
  ∀ (via : Addressee) (w : Word) (s : State), Ready via s →
    let reply := fun (status : Status) (t : State) =>
      exec (.commit via [w]) s = .next (answered via .commit [w] status [] t)
    (s.tld.isOpen = true → reply .state s) ∧
    (s.tld.isOpen = false →
      s.scc.scene = .armed ∨ s.scc.scene = .fadeOut ∨ s.scc.scene = .fadeIn ∨ s.scc.swapDue = true →
      reply .busy s) ∧
    (s.tld.isOpen = false → s.scc.swapDue = false → s.scc.scene = .steady ∨ s.scc.scene = .held →
      2 ≤ field w 1 0 → reply .range s) ∧
    (s.tld.isOpen = false → s.scc.swapDue = false → s.scc.scene = .steady → field w 1 0 = 0 →
      reply .ok { s with scc := { s.scc with
        scene := .fadeOut, ramp := activeRamp s, target := some .swapFadeIn, shadowLocked := true } }) ∧
    (s.tld.isOpen = false → s.scc.swapDue = false → s.scc.scene = .steady → field w 1 0 = 1 →
      reply .ok { s with scc := { s.scc with scene := .armed, shadowLocked := true } }) ∧
    (s.tld.isOpen = false → s.scc.swapDue = false → s.scc.scene = .held → field w 1 0 ≤ 1 →
      (s.inWindow = true →
        reply .ok { s with scc := { s.scc with shadowLocked := true, swapDue := true } }) ∧
      (s.inWindow = false →
        exec (.commit via [w]) s = .next (swap (answered via .commit [w] .ok []
          { s with scc := { s.scc with shadowLocked := true, swapDue := true } }))))

/-- A swap: the banks change places, the lock is free, nothing is due and the swap is counted; the phases are the new
bank's initial phases and every held value is 0; a tail policy of CLEAR clears lines 24 to 39, and no input line; a SWAP
trigger falls on the survey; nothing else changes (R9, R18, R42, R74, R75, R198). -/
def Obligations.SwapExchangesTheBanks : Prop :=
  ∀ s : State,
    let b := s.tables.bank s.scc.active.other
    swap s = { s with
      scc := { s.scc with
        active := s.scc.active.other, shadowLocked := false, swapDue := false
        swaps := (s.scc.swaps + 1) % 65536 }
      tpe := (swap s).tpe, lines := (swap s).lines, svu := (swap s).svu } ∧
    (swap s).tpe = { s.tpe with phases := (swap s).tpe.phases, held := (swap s).tpe.held } ∧
    (∀ i, (swap s).tpe.phases.get i = BitVec.ofNat 20 (field (b.mods.get i).w2 19 0)) ∧
    (∀ i, (swap s).tpe.held.get i = 0) ∧
    (∀ i : Fin 40, (swap s).lines.get i =
      if 24 ≤ i.val ∧ bit b.header.w2 0 = true then { s.lines.get i with wp := 0, fill := 0 }
      else s.lines.get i) ∧
    (swap s).svu = { s.svu with triggerPending := (swap s).svu.triggerPending } ∧
    ((∃ c, s.svu.state ≠ .idle ∧ s.svu.startPending = none ∧ s.svu.config = some c ∧ c.trigger = .swap) →
      (swap s).svu.triggerPending = true) ∧
    (¬(∃ c, s.svu.state ≠ .idle ∧ s.svu.startPending = none ∧ s.svu.config = some c ∧ c.trigger = .swap) →
      (swap s).svu.triggerPending = s.svu.triggerPending)

/-- CANCEL (R81), HUSH (R83) and RESUME (R84) by scene state, addressed or broadcast. -/
def Obligations.SceneCommandsFollowTheirTables : Prop :=
  ∀ (via : Addressee) (s : State), Ready via s →
    let reply := fun (c : Command) (status : Status) (scc : Scc) =>
      exec (c.row via []) s = .next (answered via c [] status [] { s with scc := scc })
    (s.scc.scene = .armed →
      reply .cancel .ok { s.scc with scene := .steady, shadowLocked := false }) ∧
    (s.scc.scene = .fadeOut → s.scc.target = some .swapFadeIn ∨ s.scc.target = some .swapHold →
      reply .cancel .ok { s.scc with scene := .fadeIn, target := none, shadowLocked := false }) ∧
    (s.scc.scene = .fadeOut → s.scc.target = some .hold → reply .cancel .state s.scc) ∧
    (s.scc.scene = .steady ∨ s.scc.scene = .held ∨ s.scc.scene = .fadeIn → reply .cancel .state s.scc) ∧
    (s.scc.scene = .steady →
      reply .hush .ok { s.scc with scene := .fadeOut, ramp := activeRamp s, target := some .hold }) ∧
    (s.scc.scene = .armed → reply .hush .ok { s.scc with
      scene := .fadeOut, ramp := activeRamp s, target := some .hold, shadowLocked := false }) ∧
    (s.scc.scene = .fadeOut → s.scc.target = some .swapFadeIn →
      reply .hush .ok { s.scc with target := some .swapHold }) ∧
    (s.scc.scene = .fadeOut → s.scc.target = some .swapHold ∨ s.scc.target = some .hold →
      reply .hush .ok s.scc) ∧
    (s.scc.scene = .held → reply .hush .ok s.scc) ∧
    (s.scc.scene = .fadeIn → reply .hush .ok { s.scc with scene := .fadeOut, target := some .hold }) ∧
    (s.scc.scene = .held → reply .resume .ok { s.scc with scene := .fadeIn, ramp := 0 }) ∧
    (s.scc.scene = .fadeOut → s.scc.target = some .hold →
      reply .resume .ok { s.scc with scene := .fadeIn, target := none }) ∧
    (s.scc.scene = .fadeOut → s.scc.target = some .swapHold →
      reply .resume .ok { s.scc with target := some .swapFadeIn }) ∧
    (s.scc.scene = .fadeOut → s.scc.target = some .swapFadeIn → reply .resume .ok s.scc) ∧
    (s.scc.scene = .steady ∨ s.scc.scene = .armed ∨ s.scc.scene = .fadeIn → reply .resume .ok s.scc)

/-- GUARD-CLEAR and RESTART, addressed or broadcast, wait for the next window start: the masks join the pending clear
(R110), said bit by bit, and the restart is pending, in every scene, load and survey state (R174); nothing else changes.
-/
def Obligations.RequestsWaitForTheWindowStart : Prop :=
  ∀ (via : Addressee) (s : State), Ready via s →
    (∀ a b : Word, ∃ sgd : Sgd,
      exec (.guardClear via [a, b]) s =
        .next (answered via .guardClear [a, b] .ok [] { s with sgd := sgd }) ∧
      sgd = { s.sgd with clearDetectors := sgd.clearDetectors, clearGroups := sgd.clearGroups } ∧
      (∀ i < 24, sgd.clearDetectors.getLsbD i = (s.sgd.clearDetectors.getLsbD i || a.getLsbD i)) ∧
      (∀ g < 8, sgd.clearGroups.getLsbD g = (s.sgd.clearGroups.getLsbD g || b.getLsbD g))) ∧
    exec (.restart via []) s =
      .next (answered via .restart [] .ok [] { s with cmu := { s.cmu with restartPending := true } })

/-- SURVEY-START, addressed or broadcast: RANGE and no change where R194 refuses it; otherwise the survey held ends and
the configuration of its argument fields (R208) waits for the window start, and what is kept of the old survey is its
envelope and sequence counter (R194, R195). SURVEY-STOP: the survey is IDLE, with no configuration, start, trigger or
measurement; RESULTS, the sequence counter and the envelope stay; a broadcast of it is discarded (R196). That START
empties the configuration in force already now, and that both leave the position, the counter, the sum, the peak, the
reference and the times 0 or absent, is the model's choice (notes: assumption 17). -/
def Obligations.SurveyCommandsSetTheSurvey : Prop :=
  (∀ (via : Addressee) (a b : Word) (s : State), Ready via s →
    (surveyConfigOf [a, b] = none →
      exec (.surveyStart via [a, b]) s = .next (answered via .surveyStart [a, b] .range [] s)) ∧
    (∀ c, surveyConfigOf [a, b] = some c →
      exec (.surveyStart via [a, b]) s =
        .next (answered via .surveyStart [a, b] .ok [] { s with svu :=
          { state := .waiting, config := none, startPending := some c, triggerPending := false, position := 0
            counter := 0, sum := 0, peak := 0, envelope := s.svu.envelope, reference := none, t20 := none
            t30 := none, sequence := s.svu.sequence } }) ∧
      c.start = field b 6 0 ∧ c.group = field b 20 16 ∧ c.exponent = field a 12 8 ∧
      [SurveyMode.levelSingle, .levelRepeat, .levelSweep, .levelRepeatSweep, .decay][field a 2 0]? = some c.mode ∧
      [Trigger.now, .mark, .swap][field a 5 4]? = some c.trigger) ∧
    ((surveyConfigOf [a, b]).isSome = true ↔
      field a 2 0 ≤ 4 ∧ field a 5 4 ≤ 2 ∧ ¬(field a 2 0 = 4 ∧ field a 5 4 = 0) ∧
        6 ≤ field a 12 8 ∧ field a 12 8 ≤ 18 ∧
        ((field a 2 0 = 0 ∨ field a 2 0 = 1 ∨ field a 2 0 = 4) → field b 20 16 = 1) ∧
        ((field a 2 0 = 2 ∨ field a 2 0 = 3) →
          field b 20 16 = 2 ∨ field b 20 16 = 4 ∨ field b 20 16 = 8 ∨ field b 20 16 = 16) ∧
        field b 6 0 + field b 20 16 ≤ 88)) ∧
  (∀ s : State,
    (Ready .addressed s → exec (.surveyStop .addressed []) s =
      .next (answered .addressed .surveyStop [] .ok [] { s with svu :=
        { state := .idle, config := none, startPending := none, triggerPending := false, position := 0
          counter := 0, sum := 0, peak := 0, envelope := s.svu.envelope, reference := none, t20 := none
          t30 := none, sequence := s.svu.sequence } })) ∧
    (Ready .broadcast s → exec (.surveyStop .broadcast []) s =
      .next (answered .broadcast .surveyStop [] .ok [] s)))

/-! ### The ring -/

/-- A good frame, not spurious, in LOCKED or FLYWHEEL: the receiver is LOCKED with bad count 0, the frame's number and
slots held, P updated by R135 in LOCKED alone, the window opened at the arrival and the watch restarted; the frame
leaves good, with its sync, number, mark and origin, and its cell unless it is IDLE; each slot that the outputs of the
queue's head name carries the sample of the highest-numbered of them, and every other slot passes through (R127, R135,
R137, R141 to R144, R147 to R149). -/
def Obligations.GoodFrameIsFollowed : Prop :=
  ∀ (time : Nat) (f : Frame) (s : State), rowsExist s = true →
    s.rrx.lock = .locked ∨ s.rrx.lock = .flywheel → frameGood f = true → s.rrx.lastStart + 461 ≤ time →
    ∃ t g, exec (.frameArrival time f) s = .next t ∧
      t.rrx.lock = .locked ∧ t.rrx.badCount = 0 ∧ t.rrx.prevNumber = f.number ∧ t.rrx.heldFrame = f.slots ∧
      (t.rrx.firstPending = true ↔ s.rrx.lock = .flywheel) ∧
      (t.rrx.period : Int) =
        (if s.rrx.lock = .locked ∧ s.rrx.firstPending = false ∧ time ≤ s.rrx.lastStart + 563 then
          (max 0 ((s.rrx.period : Int) +
            ((time : Int) - (s.rrx.lastStart : Int) - (s.rrx.period : Int)) / 16))
        else (s.rrx.period : Int)) ∧
      t.rrx.lastStart = time ∧ t.rrx.watch = some (time + (t.rrx.period + t.rrx.period / 8)) ∧
      t.rrx.localTimer = none ∧ t.rrx.ringset = ringOf s.tables.ringset ∧
      (f.kind ≠ 3 → t.rrx.slips =
        if f.number = s.rrx.prevNumber + 1 then s.rrx.slips else min (s.rrx.slips + 1) 65535) ∧
      t.inWindow = true ∧ t.rtx.mode = .follow ∧ t.rtx.number = f.number ∧ t.rtx.sent = some g ∧
      frameGood g = true ∧ g.sync = f.sync ∧ g.number = f.number ∧ g.mark = f.mark ∧ g.origin = f.origin ∧
      (let e := queueHead (endWindow s)
       g.slots = placeEntry e f.slots ∧
       (∀ k, (∀ j, (e.get j).slot ≠ some k) → g.slots.get k = f.slots.get k) ∧
       (∀ k j, (e.get j).slot = some k → (∀ i, j < i → (e.get i).slot ≠ some k) →
         g.slots.get k = (e.get j).sample)) ∧
      (f.kind ≠ 0 → g.kind = f.kind ∧ g.payload = f.payload) ∧
      (f.kind = 0 → s.cmu.replyBuffer = [] → g.kind = 0 ∧ g.payload = f.payload) ∧
      (∀ c rest, f.kind = 0 → s.cmu.replyBuffer = c :: rest →
        g.kind = c.kind ∧ g.payload = c.payload ∧ t.cmu.replyBuffer = rest)

/-- The cells of good frames at the Command Unit. A good frame that opens a window in LOCKED hands its cell on after the
window start, with the message record as it stood and, for an IDLE cell, after the offer of a reply cell (R145, R155,
R166). SELECT begins an addressed or a broadcast assembly, drops the message in REPLYING, or stands aside, and discards
and counts what was in progress (R156, R168); what the record holds after a discard or a drop is the model's choice
(notes: assumption 22). WORD is appended up to 63 words and overflows beyond (R157). END completes: DAMAGED with its
count, then LENGTH without a header, with an overflow or a wrong count, then UNKNOWN, each with its reply of two cells
if the message was addressed; and a known command, with the 62 arguments at most that a record holds, is taken as its
own row takes it (R159, R161 to R165, R169). Without an assembly WORD and END are ignored, and so is every other kind
(R155). -/
def Obligations.CellsAssembleTheMessage : Prop :=
  (∀ (time : Nat) (f : Frame) (s : State), rowsExist s = true →
    s.rrx.lock = .locked ∨ s.rrx.lock = .flywheel ∨ (s.rrx.lock = .acquiring ∧ f.number = s.rrx.prevNumber + 1 ∧
      s.rrx.ringset.acquire ≤ min (s.rrx.goodCount + 1) 255) →
    frameGood f = true → s.rrx.lastStart + 461 ≤ time →
    ∃ m t, exec (.frameArrival time f) s = .next t ∧
      m.cmu = { s.cmu with
        restartPending := false, fault := m.cmu.fault, laterCount := m.cmu.laterCount, shedNote := m.cmu.shedNote
        replyBuffer := if f.kind = 0 then s.cmu.replyBuffer.tail else s.cmu.replyBuffer
        headerHeld := if f.kind = 0 ∧ s.cmu.replyBuffer ≠ [] then false else s.cmu.headerHeld
        unit := if f.kind = 0 ∧ s.cmu.replyBuffer.length = 1 then
          (if s.cmu.assembly.isSome then .assembling else .idle) else s.cmu.unit } ∧
      m.rrx.lock = .locked ∧ m.inWindow = true ∧ m.rtx.number = f.number ∧
      m.tables = { s.tables with results := m.tables.results } ∧
      (let u := takeCell f.kind f.payload m
       t = { u with
         cmu := { u.cmu with fault := t.cmu.fault, laterCount := t.cmu.laterCount, shedNote := t.cmu.shedNote }
         dmc := { u.dmc with
           shedLast := t.dmc.shedLast, shedWorst := t.dmc.shedWorst, shedWindows := t.dmc.shedWindows }
         scc := t.scc, svu := t.svu, tld := t.tld, draws := t.draws } ∧
       (f.mark = false → t.scc = u.scc ∧ t.svu = u.svu) ∧
       (idleReaches s.tld = false → (s.tld.isOpen = true → 1 ≤ s.tld.timeout) → t.tld = u.tld))) ∧
  (∀ (p : Word) (m : State),
    let gone := { m.cmu with
      assembly := none
      truncated := if m.cmu.assembly.isSome then min (m.cmu.truncated + 1) 65535 else m.cmu.truncated }
    (field p 5 0 = 63 → takeCell 1 p m = { m with cmu := { gone with
      unit := if m.cmu.unit = .replying then .replying else .assembling
      assembly := some .broadcast, words := [], overflow := false, damaged := false } }) ∧
    (∀ a : Fin 63, m.cmu.nodeAddress = some a → field p 5 0 = a.val →
      (m.cmu.unit ≠ .replying → takeCell 1 p m = { m with cmu := { gone with
        unit := .assembling, assembly := some .addressed, words := [], overflow := false, damaged := false } }) ∧
      (m.cmu.unit = .replying → takeCell 1 p m = { m with cmu := { gone with
        overruns := min (m.cmu.overruns + 1) 65535, overrun := true } })) ∧
    (field p 5 0 ≠ 63 → m.cmu.nodeAddress.map Fin.val ≠ some (field p 5 0) →
      takeCell 1 p m = { m with cmu := { gone with
        unit := if m.cmu.unit = .replying then .replying else .idle } }) ∧
    (m.cmu.assembly = none → takeCell 2 p m = m ∧ takeCell 3 p m = m) ∧
    (m.cmu.assembly.isSome = true →
      (m.cmu.words.length < 63 →
        takeCell 2 p m = { m with cmu := { m.cmu with words := m.cmu.words ++ [p] } }) ∧
      (63 ≤ m.cmu.words.length → takeCell 2 p m = { m with cmu := { m.cmu with overflow := true } })) ∧
    (∀ kind : BitVec 4, kind ≠ 1 → kind ≠ 2 → kind ≠ 3 → takeCell kind p m = m)) ∧
  (∀ (p : Word) (via : Addressee) (m : State), m.cmu.assembly = some via →
    let code := field (m.cmu.words.headD 0) 23 16
    let ended := { m with cmu := { m.cmu with assembly := none } }
    let refused := fun (status : Status) (u : State) =>
      (via = .broadcast → takeCell 3 p m = { u with cmu := { u.cmu with
        unit := if m.cmu.unit = .replying then .replying else .idle } }) ∧
      (∀ a, via = .addressed → m.cmu.nodeAddress = some a → takeCell 3 p m = { u with cmu := { u.cmu with
        unit := .replying, replyBuffer := [⟨4, replyHeader u a status code⟩, ⟨5, 0⟩]
        headerHeld := true, overrun := false } })
    (m.cmu.damaged = true → refused .damaged
      { ended with cmu := { ended.cmu with damagedCount := min (m.cmu.damagedCount + 1) 65535 } }) ∧
    (m.cmu.damaged = false →
      (m.cmu.overflow = true ∨ m.cmu.words = [] ∨ field (m.cmu.words.headD 0) 5 0 ≠ m.cmu.words.tail.length →
        refused .length ended) ∧
      (∀ header args, m.cmu.overflow = false → m.cmu.words = header :: args → field header 5 0 = args.length →
        (code ∉ [0x01, 0x02, 0x03, 0x10, 0x11, 0x12, 0x20, 0x21, 0x22, 0x23, 0x30, 0x40, 0x41, 0x50, 0x5A] →
          refused .unknown ended) ∧
        (∀ c : Command, c.code = code → args.length ≤ 62 → Ready via ended →
          let u := takeCell 3 p m
          exec (c.row via args) ended =
            .next { u with cmu := { u.cmu with words := headerWord c args :: args } }))))

/-- The mark of a good frame in LOCKED: an ARMED scene begins to fade out at the full ramp toward its swap, and one
whose frame bears no mark stays ARMED; without a RESTART pending, and for a frame whose cell completes no message, which
would race with the mark (R82, R87, R146). -/
def Obligations.MarkStartsTheArmedScene : Prop :=
  ∀ (time : Nat) (f : Frame) (s : State), rowsExist s = true →
    s.rrx.lock = .locked ∨ s.rrx.lock = .flywheel → frameGood f = true → s.rrx.lastStart + 461 ≤ time → f.kind ≠ 3 →
    s.cmu.restartPending = false → s.scc.swapDue = false → s.scc.scene = .armed →
    ∃ t, exec (.frameArrival time f) s = .next t ∧
      (f.mark = true → t.scc = { s.scc with
        scene := .fadeOut, ramp := activeRamp s, target := some .swapFadeIn, windowState := .armed }) ∧
      (f.mark = false → t.scc = { s.scc with windowState := .armed })

/-- A bad frame that opens a window in LOCKED below the tolerance, or in FLYWHEEL below it: one more bad frame, the
previous number counted on, P and the held frame kept, and the frame forwarded with its cell and bad, whatever its slots
became (R141 to R143, R147, R150, R158). -/
def Obligations.BadFrameIsPoisoned : Prop :=
  ∀ (time : Nat) (f : Frame) (s : State), rowsExist s = true → frameGood f = false →
    s.rrx.lastStart + 461 ≤ time →
    (s.rrx.lock = .locked ∧ 2 ≤ s.rrx.ringset.tolerance) ∨
      (s.rrx.lock = .flywheel ∧ s.rrx.badCount + 1 < s.rrx.ringset.tolerance) →
    ∃ t g, exec (.frameArrival time f) s = .next t ∧
      t.rrx.lock = .flywheel ∧ t.rrx.badCount = (if s.rrx.lock = .locked then 1 else s.rrx.badCount + 1) ∧
      t.rrx.prevNumber = s.rrx.prevNumber + 1 ∧ t.rrx.period = s.rrx.period ∧
      t.rrx.heldFrame = s.rrx.heldFrame ∧ t.rrx.badFrames = min (s.rrx.badFrames + 1) 65535 ∧
      t.rrx.lastStart = time ∧ t.rrx.watch = some (time + (s.rrx.period + s.rrx.period / 8)) ∧
      t.inWindow = true ∧ t.rtx.number = s.rtx.number + 1 ∧ t.rtx.sent = some g ∧ frameGood g = false ∧
      g.sync = f.sync ∧ g.number = f.number ∧ g.mark = f.mark ∧ g.origin = f.origin ∧ g.cut = f.cut ∧ g.kind = f.kind ∧
      g.payload = f.payload ∧ g.slots = placeEntry (queueHead (endWindow s)) f.slots ∧
      t.cmu.replyBuffer = s.cmu.replyBuffer ∧ t.cmu.words = s.cmu.words ∧
      t.cmu.damaged = (s.cmu.damaged || s.cmu.assembly.isSome) ∧
      t.tables = { s.tables with results := t.tables.results } ∧ t.pending = s.pending

/-- A spurious frame in LOCKED or FLYWHEEL opens no window: it counts as bad, whatever its check, and it damages a
message in progress. Below the tolerance nothing else changes, neither the first interval pending nor the watch nor the
frame sent. At the tolerance lock is lost: SEARCHING, the counts 0, the watch stopped, the local frame timer P after the
previous window start unless it runs, a lock loss counted, LOCK_LOST captured or counted, and the traffic of the Command
Unit abandoned, its record kept, damaged flag and all, which is the model's choice (notes: assumption 22) (R136, R138,
R141 to R143, R145, R158, R160, R168, R172). -/
def Obligations.SpuriousFrameOpensNoWindow : Prop :=
  ∀ (time : Nat) (f : Frame) (s : State), time < s.rrx.lastStart + 461 →
    ((s.rrx.lock = .locked ∧ 2 ≤ s.rrx.ringset.tolerance) ∨
      (s.rrx.lock = .flywheel ∧ s.rrx.badCount + 1 < s.rrx.ringset.tolerance) →
      exec (.frameArrival time f) s = .next { s with
        rrx := { s.rrx with
          lock := .flywheel, badCount := if s.rrx.lock = .locked then 1 else s.rrx.badCount + 1
          badFrames := min (s.rrx.badFrames + 1) 65535 }
        cmu := { s.cmu with damaged := s.cmu.damaged || s.cmu.assembly.isSome } }) ∧
    ((s.rrx.lock = .locked ∧ s.rrx.ringset.tolerance ≤ 1) ∨
      (s.rrx.lock = .flywheel ∧ s.rrx.ringset.tolerance ≤ s.rrx.badCount + 1) →
      exec (.frameArrival time f) s = .next { s with
        rrx := { s.rrx with
          lock := .searching, goodCount := 0, badCount := 0, watch := none
          badFrames := min (s.rrx.badFrames + 1) 65535, lockLosses := min (s.rrx.lockLosses + 1) 65535
          localTimer := some (s.rrx.localTimer.getD (s.rrx.lastStart + s.rrx.period)) }
        cmu := { s.cmu with
          unit := .idle, assembly := none, replyBuffer := [], headerHeld := false
          damaged := s.cmu.damaged || s.cmu.assembly.isSome
          truncated := if s.cmu.assembly.isSome then min (s.cmu.truncated + 1) 65535 else s.cmu.truncated
          overrun := s.cmu.overrun || (s.cmu.headerHeld && s.cmu.replyBuffer.head?.any fun h => h.payload.getLsbD 8)
          fault := if s.cmu.fault.isSome then s.cmu.fault else some ⟨.lockLost, s.rtx.number, 0⟩
          laterCount := if s.cmu.fault.isSome then min (s.cmu.laterCount + 1) 255 else s.cmu.laterCount } })

/-- The bad or missing frame that reaches the tolerance loses lock and opens its window in SEARCHING, after the end of a
window that still runs: the counts are 0, the watch stops, the local frame timer runs from the window start, a lock loss
is counted, the fault record captures LOCK_LOST with the number of the frame last sent, or counts it where it holds a
fault, the Command Unit abandons its traffic, and an originated frame is sent. That no expiry of the loader falls on the
window start is assumed for the fault record alone. A spurious frame is the matter of SpuriousFrameOpensNoWindow (R137,
R138, R142, R152, R160, R168, R172). -/
def Obligations.LockIsLostAtTheTolerance : Prop :=
  ∀ (event : Instr) (time : Nat) (s : State), rowsExist s = true →
    (s.rrx.lock = .flywheel ∧ s.rrx.ringset.tolerance ≤ s.rrx.badCount + 1) ∨
      (s.rrx.lock = .locked ∧ s.rrx.ringset.tolerance ≤ 1) →
    (∃ f, event = .frameArrival time f ∧ frameGood f = false ∧ s.rrx.lastStart + 461 ≤ time) ∨
      (event = .watchExpiry ∧ s.rrx.watch = some time) →
    let e := endWindow s
    ∃ t g, exec event s = .next t ∧
      t.rrx.lock = .searching ∧ t.rrx.goodCount = 0 ∧ t.rrx.badCount = 0 ∧ t.rrx.watch = none ∧
      t.rrx.localTimer = some (time + s.rrx.period) ∧ t.rrx.lastStart = time ∧
      t.rrx.lockLosses = min (s.rrx.lockLosses + 1) 65535 ∧
      (idleReaches s.tld = false →
        (e.cmu.fault = none →
          t.cmu.fault = some ⟨.lockLost, s.rtx.number, 0⟩ ∧ t.cmu.laterCount = e.cmu.laterCount) ∧
        (e.cmu.fault.isSome = true →
          t.cmu.fault = e.cmu.fault ∧ t.cmu.laterCount = min (e.cmu.laterCount + 1) 255)) ∧
      t.cmu.unit = .idle ∧ t.cmu.replyBuffer = [] ∧ t.cmu.assembly = none ∧ t.cmu.headerHeld = false ∧
      (t.cmu.overrun =
        (s.cmu.overrun || (s.cmu.headerHeld && s.cmu.replyBuffer.head?.any fun h => h.payload.getLsbD 8))) ∧
      t.cmu.truncated = (if s.cmu.assembly.isSome then min (s.cmu.truncated + 1) 65535 else s.cmu.truncated) ∧
      t.inWindow = true ∧ t.rtx.mode = .originate ∧ t.rtx.number = s.rtx.number + 1 ∧ t.rtx.sent = some g ∧
      frameGood g = true ∧ g.sync = 0xD3A8 ∧ g.number = s.rtx.number + 1 ∧ g.origin = true ∧ g.mark = false ∧
      g.kind = 0 ∧ g.payload = 0 ∧ g.slots = placeEntry (queueHead e) (Regs.fill 128 0) ∧
      (∀ i, t.ios.conditioned.get i = 0) ∧
      t.tables = { s.tables with results := t.tables.results } ∧ t.pending = s.pending

/-- A frame in SEARCHING: a bad one is counted and does nothing more; a good one begins an acquisition and sets the
timer 564 ticks on, and it opens a window, in ACQUIRING, only 461 ticks or more after the last window start (R139,
R152). -/
def Obligations.SearchingTakesFramesByCheck : Prop :=
  ∀ (time : Nat) (f : Frame) (s : State), s.rrx.lock = .searching →
    (frameGood f = false → exec (.frameArrival time f) s =
      .next { s with rrx := { s.rrx with badFrames := min (s.rrx.badFrames + 1) 65535 } }) ∧
    (frameGood f = true → time < s.rrx.lastStart + 461 → exec (.frameArrival time f) s =
      .next { s with rrx := { s.rrx with
        lock := .acquiring, goodCount := 1, prevNumber := f.number, localTimer := some (time + 564) } }) ∧
    (frameGood f = true → s.rrx.lastStart + 461 ≤ time → rowsExist s = true →
      ∃ t g, exec (.frameArrival time f) s = .next t ∧ t.rrx.lock = .acquiring ∧ t.rrx.goodCount = 1 ∧
        t.rrx.prevNumber = f.number ∧ t.rrx.localTimer = some (time + 564) ∧ t.rrx.watch = none ∧
        t.rrx.lastStart = time ∧ t.inWindow = true ∧ t.rtx.mode = .originate ∧
        t.rtx.number = s.rtx.number + 1 ∧ t.rtx.sent = some g ∧ frameGood g = true ∧
        g.number = s.rtx.number + 1 ∧ g.origin = true ∧
        g.slots = placeEntry (queueHead (endWindow s)) (Regs.fill 128 0))

/-- A frame in ACQUIRING: a counted frame goes on, with a window and an originated frame, or reaches the acquire count
and is followed in LOCKED; any other frame returns to SEARCHING without a window and leaves the timer (R140, R143,
R144). -/
def Obligations.AcquiringCountsFrames : Prop :=
  ∀ (time : Nat) (f : Frame) (s : State), s.rrx.lock = .acquiring →
    (frameGood f = true → s.rrx.lastStart + 461 ≤ time → f.number = s.rrx.prevNumber + 1 → rowsExist s = true →
      ∃ t g, exec (.frameArrival time f) s = .next t ∧ t.rrx.goodCount = min (s.rrx.goodCount + 1) 255 ∧
        t.rrx.prevNumber = f.number ∧ t.rrx.lastStart = time ∧ t.rrx.period = s.rrx.period ∧
        t.inWindow = true ∧ t.rtx.sent = some g ∧ frameGood g = true ∧
        (min (s.rrx.goodCount + 1) 255 < s.rrx.ringset.acquire →
          t.rrx.lock = .acquiring ∧ t.rrx.localTimer = some (time + 564) ∧ t.rtx.mode = .originate ∧
          t.rtx.number = s.rtx.number + 1 ∧ g.origin = true) ∧
        (s.rrx.ringset.acquire ≤ min (s.rrx.goodCount + 1) 255 →
          t.rrx.lock = .locked ∧ t.rrx.badCount = 0 ∧ t.rrx.firstPending = true ∧ t.rrx.heldFrame = f.slots ∧
          t.rrx.localTimer = none ∧ t.rrx.watch = some (time + (s.rrx.period + s.rrx.period / 8)) ∧
          t.rtx.mode = .follow ∧ t.rtx.number = f.number ∧ g.origin = f.origin)) ∧
    (frameGood f = true → s.rrx.lastStart + 461 ≤ time → f.number ≠ s.rrx.prevNumber + 1 →
      ∃ cmu, exec (.frameArrival time f) s = .next { s with
        rrx := { s.rrx with lock := .searching, goodCount := 0, prevNumber := f.number }, cmu := cmu }) ∧
    (frameGood f = false ∨ time < s.rrx.lastStart + 461 →
      ∃ cmu, exec (.frameArrival time f) s = .next { s with
        rrx := { s.rrx with
          lock := .searching, goodCount := 0, badFrames := min (s.rrx.badFrames + 1) 65535 }
        cmu := cmu })

/-- WATCH_EXPIRY below the tolerance: a missing frame, counted, with a window in FLYWHEEL at the time of the expiry, and
a stand-in frame that is bad, with zeros in the slots the part does not own (R137, R141 to R143, R151). -/
def Obligations.WatchExpirySendsAStandIn : Prop :=
  ∀ (time : Nat) (s : State), rowsExist s = true → s.rrx.watch = some time →
    (s.rrx.lock = .locked ∧ 2 ≤ s.rrx.ringset.tolerance) ∨
      (s.rrx.lock = .flywheel ∧ s.rrx.badCount + 1 < s.rrx.ringset.tolerance) →
    ∃ t g, exec .watchExpiry s = .next t ∧
      t.rrx.lock = .flywheel ∧ t.rrx.badCount = (if s.rrx.lock = .locked then 1 else s.rrx.badCount + 1) ∧
      t.rrx.missingFrames = min (s.rrx.missingFrames + 1) 65535 ∧ t.rrx.prevNumber = s.rrx.prevNumber + 1 ∧
      t.rrx.period = s.rrx.period ∧ t.rrx.heldFrame = s.rrx.heldFrame ∧ t.rrx.lastStart = time ∧
      t.rrx.watch = some (time + (s.rrx.period + s.rrx.period / 8)) ∧ t.inWindow = true ∧
      t.rtx.mode = .follow ∧ t.rtx.number = s.rtx.number + 1 ∧ t.rtx.sent = some g ∧ frameGood g = false ∧
      g.sync = 0xD3A8 ∧ g.number = s.rtx.number + 1 ∧ g.mark = false ∧ g.origin = true ∧ g.kind = 0 ∧ g.payload = 0 ∧
      g.slots = placeEntry (queueHead (endWindow s)) (Regs.fill 128 0) ∧
      t.cmu.replyBuffer = s.cmu.replyBuffer ∧ t.cmu.damaged = (s.cmu.damaged || s.cmu.assembly.isSome) ∧
      t.tables = { s.tables with results := t.tables.results } ∧ t.pending = s.pending

/-- LOCAL_FRAME_TIMER_EXPIRY: a window in SEARCHING at the time of the expiry, from SEARCHING or ACQUIRING, the timer
restarted by P, an originated good frame, and inputs of 0 (R119, R138, R140, R152). -/
def Obligations.LocalTimerExpiryOriginates : Prop :=
  ∀ (time : Nat) (s : State), rowsExist s = true →
    s.rrx.lock = .searching ∨ s.rrx.lock = .acquiring → s.rrx.localTimer = some time →
    ∃ t g, exec .localFrameTimerExpiry s = .next t ∧
      t.rrx.lock = .searching ∧ t.rrx.goodCount = 0 ∧ t.rrx.lastStart = time ∧
      t.rrx.localTimer = some (time + s.rrx.period) ∧ t.rrx.period = s.rrx.period ∧
      t.rrx.prevNumber = s.rrx.prevNumber ∧ t.inWindow = true ∧ t.rtx.mode = .originate ∧
      t.rtx.number = s.rtx.number + 1 ∧ t.rtx.sent = some g ∧ frameGood g = true ∧
      g.sync = 0xD3A8 ∧ g.number = s.rtx.number + 1 ∧ g.mark = false ∧ g.origin = true ∧ g.kind = 0 ∧ g.payload = 0 ∧
      g.slots = placeEntry (queueHead (endWindow s)) (Regs.fill 128 0) ∧
      (∀ i, t.ios.conditioned.get i = 0) ∧
      t.tables = { s.tables with results := t.tables.results } ∧ t.pending = s.pending

/-- The 3142 bits of a frame, in the order and the places of R131 and R206: the sync, the number, the two flags, the
slots, the cell and the check, each most significant bit first. Bits 16 to 3125 are the checked contents, over which a
register preset to ones is run by R132, and a frame is good exactly when it was received whole and its check is what the
register then holds. On the ring output stands the frame last sent, as far as an early sync let it go (R147, R150). -/
def Obligations.FrameBitsAreInTheirPlaces : Prop :=
  (∀ f : Frame,
    let bits := frameBits f
    bits.length = 3142 ∧ (∀ i < 16, bits[i]? = some (f.sync.getMsbD i)) ∧
    (∀ i < 8, bits[16 + i]? = some (f.number.getMsbD i)) ∧ bits[24]? = some f.mark ∧ bits[25]? = some f.origin ∧
    (∀ k : Fin 128, ∀ i < 24, bits[26 + 24 * k.val + i]? = some ((f.slots.get k).getMsbD i)) ∧
    (∀ i < 4, bits[3098 + i]? = some (f.kind.getMsbD i)) ∧
    (∀ i < 24, bits[3102 + i]? = some (f.payload.getMsbD i)) ∧
    (∀ i < 16, bits[3126 + i]? = some (f.check.getMsbD i)) ∧
    (frameGood f = true ↔ f.cut = none ∧ f.check = checkOver ((bits.drop 16).take 3110) 0xFFFF) ∧
    (∀ s : State, s.rtx.sent = some f →
      (f.cut = none → ringOutput s = bits) ∧ (∀ n, f.cut = some n → ringOutput s = bits.take (16 + n))) ∧
    (∀ time, (Instr.frameArrival time f).wellFormed = true → f.sync = 0xD3A8)) ∧
  (∀ r, checkOver [] r = r) ∧
  (∀ b l r, checkOver (b :: l) r = checkOver l (if r.msb = b then r <<< 1 else (r <<< 1) ^^^ 0x3D65))

/-! ### The window -/

/-- The window start's own work where RESTART is pending (every event that opens a window does it, by
OpeningEventsRunTheWindow): RESTART acts there, and the window uses the stored tables. All 40 lines are empty before the
input writes, every phase is the initial one, the scene is HELD, every guard target, applied index and flag is 0, every
trim is at its target, the survey is IDLE, and what R174's table keeps is kept: the receiver's and the transmitter's own
work, the tables, the banks and the counters (R10, R43, R51, R89, R113, R122, R204). -/
def Obligations.RestartActsAtTheWindowStart : Prop :=
  ∀ (time : Nat) (s : State), s.cmu.restartPending = true →
    let t := startBlocks time s
    t.cmu = { s.cmu with restartPending := false } ∧ t.tables = s.tables ∧ t.tld = s.tld ∧ t.rtx = s.rtx ∧
    t.memory = s.memory ∧ t.inWindow = s.inWindow ∧ t.rrx = s.rrx.windowStart time s.tables.ringset ∧
    (∀ i, t.lines.get i = ⟨baseOf (s.tables.lines.get i), rowsOf (s.tables.lines.get i), 0, 0⟩) ∧
    (∀ i, t.tpe.phases.get i = initialPhaseOf ((activeBank s).mods.get i)) ∧ (∀ i, t.tpe.held.get i = 0) ∧
    t.tpe.busClips = s.tpe.busClips ∧
    t.dmc.openRow = none ∧ t.dmc.direction = none ∧ t.dmc.timing = timingOf s.tables.timing ∧ t.dmc.spend = 0 ∧
    t.dmc.shedLast = s.dmc.shedLast ∧ t.dmc.shedWorst = s.dmc.shedWorst ∧
    t.dmc.shedWindows = s.dmc.shedWindows ∧ t.dmc.refreshOverruns = s.dmc.refreshOverruns ∧
    t.scc = { s.scc with
      scene := .held, ramp := 0, target := none, shadowLocked := false, swapDue := false, windowState := .held } ∧
    (∀ i, t.sgd.detectors.get i =
      ⟨detectorOf (s.tables.detectors.get i), 0, 0, 0, 0, 0, false, (s.sgd.detectors.get i).total⟩) ∧
    (∀ g, t.sgd.groups.get g = ⟨groupOf (s.tables.groups.get g), 0, 0, 0⟩) ∧
    t.sgd.clearDetectors = 0 ∧ t.sgd.clearGroups = 0 ∧
    (∀ i, t.ios.inputs.get i = inputOf (s.tables.inputs.get i) ∧
      t.ios.inApplied.get i = (inputOf (s.tables.inputs.get i)).trim) ∧
    (∀ i, t.ios.outputs.get i = outputOf (s.tables.outputs.get i) ∧
      t.ios.outApplied.get i = (outputOf (s.tables.outputs.get i)).trim) ∧
    t.ios.queue = s.ios.queue ∧ t.ios.outClips = s.ios.outClips ∧
    t.svu.state = .idle ∧ t.svu.config = none ∧ t.svu.startPending = none ∧ t.svu.triggerPending = false ∧
    t.svu.envelope = 0 ∧ t.svu.sequence = s.svu.sequence

/-- Every event that opens a window ends the window that still runs, does the work of the window start, sends its frame,
writes the inputs and runs the tap pass, in that order: `u` is the state in which the receiver has taken the event, with
the loader and the Command Unit as the event leaves them. Where the frame completes no message, the guard, the tables
and the statistics are as the window start and the tap pass leave them, and so are the scene and the survey but for a
mark: the mark of a good frame that leaves the receiver LOCKED starts the fade-out of an ARMED scene and makes a trigger
pending in a survey that waits for or measures on trigger MARK (R82, R146, R198). The idle timer of an OPEN loader
counts the window start and expires at timeout × 1024, with LOAD_TIMEOUT captured by an empty record before or after the
frame is sent (R4, R24, R47, R56, R61, R64, R126, R145, R146, R172, R174, R185, R191). -/
def Obligations.OpeningEventsRunTheWindow : Prop :=
  ∀ (event : Instr) (time : Nat) (j : Taken) (o : Opening) (s : State), rowsExist s = true → j.opening = some o →
    (∃ f, event = .frameArrival time f ∧ j = s.rrx.takeFrame time f) ∨
      (event = .watchExpiry ∧ watchTime s.rrx = some time ∧ j = s.rrx.takeMissing) ∨
      (event = .localFrameTimerExpiry ∧ localTime s.rrx = some time ∧ j = s.rrx.takeLocal) →
    ∃ t u, exec event s = .next t ∧
      u = { endWindow s with rrx := j.rrx, cmu := u.cmu, tld := u.tld, draws := u.draws } ∧
      u.cmu.restartPending = s.cmu.restartPending ∧ (idleReaches s.tld = false → u.tld = s.tld) ∧
      (let w := startBlocks time u
       let e := earlyStages w
       let p := runTaps e
       t.lines = e.lines ∧ t.memory = e.memory ∧ t.lapse = e.lapse ∧ t.inWindow = true ∧
       t.ios = { e.ios with queue := w.ios.queue.tail, outClips := t.ios.outClips } ∧
       t.tpe = { w.tpe with held := p.held, outs := p.outs, buses := p.buses, busClips := t.tpe.busClips } ∧
       t.dmc = { e.dmc with
         spend := e.dmc.spend + p.spent, openRow := p.row.openRow, direction := p.row.direction
         shedLast := p.shed, shedWorst := t.dmc.shedWorst, shedWindows := t.dmc.shedWindows
         refreshOverruns := t.dmc.refreshOverruns } ∧
       ((∀ f, o = .good f → f.kind = 3 → j.rrx.lock = .locked → s.cmu.assembly = none) →
         ((j.rrx.lock = .locked → ∀ f, o = .good f → f.mark = false) → t.scc = w.scc ∧ t.svu = w.svu) ∧
         (∀ f, j.rrx.lock = .locked → o = .good f → f.mark = true →
           (w.scc.scene = .armed → t.scc = { w.scc with
             scene := .fadeOut, ramp := activeRamp w, target := some .swapFadeIn }) ∧
           (w.scc.scene ≠ .armed → t.scc = w.scc) ∧
           (∀ c, w.svu.state ≠ .idle → w.svu.startPending = none → w.svu.config = some c → c.trigger = .mark →
             t.svu = { w.svu with triggerPending := true }) ∧
           ((∀ c, w.svu.state ≠ .idle → w.svu.startPending = none → w.svu.config = some c → c.trigger ≠ .mark) →
             t.svu = w.svu)) ∧
         t.rrx = w.rrx ∧ t.sgd = w.sgd ∧ t.tables = w.tables ∧ t.cmu.restartPending = false ∧
         t.ios.outClips = w.ios.outClips ∧ t.tpe.busClips = w.tpe.busClips ∧
         t.dmc.shedWorst = max w.dmc.shedWorst p.shed ∧
         t.dmc.shedWindows = (if p.shed = 0 then w.dmc.shedWindows else min (w.dmc.shedWindows + 1) 65535) ∧
         t.cmu.shedNote = (s.cmu.shedNote || decide (0 < p.shed)) ∧
         (s.tld.isOpen = false → t.tld = s.tld) ∧
         (∀ n, s.tld.isOpen = true → s.tld.idle = some n →
           (n + 1 ≠ s.tld.timeout * 1024 → t.tld = { s.tld with idle := some (n + 1) }) ∧
           (n + 1 = s.tld.timeout * 1024 →
             t.tld = { s.tld with isOpen := false, remaining := 0, partialWords := [], idle := none } ∧
             ((endWindow s).cmu.fault = none → j.lost = false → ∃ number,
               t.cmu.fault = some ⟨.loadTimeout, number, s.tld.table.id⟩ ∧
                 (number = s.rtx.number ∨ number = t.rtx.number))))))

/-- A window start without RESTART: the stored tables come into force; a line whose geometry changes is cleared, with
the held values of the taps that read it, and every other line stays; a detector and a group follow R94 and R95 and then
the pending clear; trims, phases and the scene state stay, and the scene state is recorded; a pending survey
configuration comes into force with its sums empty, and a pending trigger, or trigger NOW, begins a measurement, in
DECAY with the level of the envelope as its reference; RINGSET comes into force after the event; and no refresh request
waits where refresh is off (R18, R34, R41, R50, R68, R72, R94 to R96, R111, R118, R134, R197, R203). That a window begun
without refresh is counted in the record of the holding, by which R68's loss is told, is the model's choice (notes:
assumption 7). -/
def Obligations.WindowStartTakesTablesIntoForce : Prop :=
  ∀ (time : Nat) (s : State), s.cmu.restartPending = false →
    let t := startBlocks time s
    let changed := fun i : Fin 40 => (s.lines.get i).base ≠ baseOf (s.tables.lines.get i) ∨
      (s.lines.get i).rows ≠ rowsOf (s.tables.lines.get i)
    t.cmu = s.cmu ∧ t.tables = s.tables ∧ t.tld = s.tld ∧ t.rtx = s.rtx ∧ t.memory = s.memory ∧
    (∀ i, (changed i → t.lines.get i = ⟨baseOf (s.tables.lines.get i), rowsOf (s.tables.lines.get i), 0, 0⟩) ∧
      (¬changed i → t.lines.get i = s.lines.get i)) ∧
    (∀ k, ((∃ i, changed i ∧ (tapOf ((activeBank s).taps.get k)).source = i.val) → t.tpe.held.get k = 0) ∧
      (¬(∃ i, changed i ∧ (tapOf ((activeBank s).taps.get k)).source = i.val) →
        t.tpe.held.get k = s.tpe.held.get k)) ∧
    t.tpe.phases = s.tpe.phases ∧ t.dmc.timing = timingOf s.tables.timing ∧ t.dmc.spend = 0 ∧
    t.dmc.openRow = s.dmc.openRow ∧ t.dmc.direction = s.dmc.direction ∧
    (s.dmc.timing.refreshOn = true → t.dmc.timing.refreshOn = true →
      t.dmc.refreshDue = s.dmc.refreshDue ∧ t.dmc.pendingRefresh = s.dmc.pendingRefresh) ∧
    (s.dmc.timing.refreshOn = true → t.dmc.timing.refreshOn = false →
      t.dmc.refreshDue = none ∧ t.dmc.pendingRefresh = 0) ∧
    (s.dmc.timing.refreshOn = false → t.dmc.timing.refreshOn = true →
      t.dmc.refreshDue = some (4 * time + t.dmc.timing.interval) ∧ t.dmc.pendingRefresh = 0) ∧
    t.scc = { s.scc with windowState := s.scc.scene } ∧
    (∀ i, t.ios.inputs.get i = inputOf (s.tables.inputs.get i)) ∧
    (∀ i, t.ios.outputs.get i = outputOf (s.tables.outputs.get i)) ∧
    t.ios.inApplied = s.ios.inApplied ∧ t.ios.outApplied = s.ios.outApplied ∧ t.ios.queue = s.ios.queue ∧
    (∀ i, let d := s.sgd.detectors.get i
      let e := detectorOf (s.tables.detectors.get i)
      let cleared := s.sgd.clearDetectors.getLsbD i.val
      let u := t.sgd.detectors.get i
      u.entry = e ∧ u.total = d.total ∧ u.flag = (d.flag && !cleared) ∧
      (u.trips = if cleared ∨ (d.entry ≠ e ∧ (d.entry.enable = true ∨ e.enable = true)) then 0 else d.trips) ∧
      (u.forgive =
        if cleared ∨ (d.entry ≠ e ∧ (d.entry.enable = true ∨ e.enable = true)) then 0 else d.forgive) ∧
      (u.debounce =
        if d.entry ≠ e ∧ (d.entry.enable = true ∨ e.enable = true) then 0 else d.debounce) ∧
      (u.fast = if d.entry.enable ≠ e.enable then 0 else d.fast) ∧
      (u.slow = if d.entry.enable ≠ e.enable then 0 else d.slow)) ∧
    (∀ i, let g := s.sgd.groups.get i
      let e := groupOf (s.tables.groups.get i)
      let cleared := s.sgd.clearGroups.getLsbD i.val
      let u := t.sgd.groups.get i
      u.entry = e ∧ u.applied = g.applied ∧ (u.timer = if cleared ∨ g.entry ≠ e then 0 else g.timer) ∧
      (u.target = if cleared then 0
        else if g.entry ≠ e ∧ g.target ≤ 60 ∧ e.floor < g.target then e.floor else g.target)) ∧
    t.sgd.clearDetectors = 0 ∧ t.sgd.clearGroups = 0 ∧
    t.rrx.ringset = ringOf s.tables.ringset ∧ t.rrx.lastStart = time ∧
    t.lapse = (if t.dmc.timing.refreshOn then s.lapse else { s.lapse with windows := s.lapse.windows + 1 }) ∧
    (∀ c, s.svu.startPending = some c → s.svu.state ≠ .idle →
      (c.trigger = .now ∨ s.svu.triggerPending = true → t.svu =
        { state := .measuring, config := some c, startPending := none, triggerPending := false, position := 0
          counter := 0, sum := 0, peak := 0, envelope := 0
          reference := if c.mode = .decay then some (-480) else none, t20 := none, t30 := none
          sequence := s.svu.sequence }) ∧
      (c.trigger ≠ .now → s.svu.triggerPending = false → t.svu =
        { state := s.svu.state, config := some c, startPending := none, triggerPending := false, position := 0
          counter := 0, sum := 0, peak := 0, envelope := 0, reference := none, t20 := none, t30 := none
          sequence := s.svu.sequence })) ∧
    (s.svu.startPending = none → s.svu.triggerPending = false ∨ s.svu.state = .idle → t.svu = s.svu) ∧
    (∀ c, s.svu.startPending = none → s.svu.triggerPending = true → s.svu.state ≠ .idle → s.svu.config = some c →
      (c.mode ≠ .decay → t.svu = { s.svu with
        state := .measuring, triggerPending := false, position := 0, counter := 0, sum := 0, peak := 0 }) ∧
      (c.mode = .decay → t.svu = { s.svu with
        state := .measuring, triggerPending := false, position := 0, counter := 0, sum := 0, peak := 0
        reference := some (lev s.svu.envelope), t20 := none, t30 := none }))

/-- Stages 1 and 2 of a window: up to two waiting refreshes are served, every input channel is conditioned, and each
enabled input line takes its channel's conditioned sample at the position after its write position; the bus lines stay,
and so does every word of the delay memory that no input write goes to, which reads as before; and once a refresh has
been served, a word that has not been held too long so far still reads its sample after as many windows without refresh
as the retention time (R37, R55, R57, R58, R68, R119 to R121). That LOCKED takes its raw samples from the held input
frame, which R144 makes the frame that opened the window, is the model's choice (notes: assumption 21), and that the
retention is counted in windows is too (notes: assumption 7). -/
def Obligations.EarlyStagesWriteTheInputs : Prop :=
  ∀ s : State, LinesInv s →
    let t := earlyStages s
    t.dmc.pendingRefresh = s.dmc.pendingRefresh - min s.dmc.pendingRefresh 2 ∧
    (∀ c : Fin 24, let e := s.ios.inputs.get c
      let raw : Int := match e.slot with
        | none => 0
        | some k => if cellsReach s.rrx.lock then (s.rrx.heldFrame.get k).toInt else 0
      let u : Int := if e.invert then min (-raw) 8388607 else raw
      (t.ios.conditioned.get c).toInt = u * (ga (s.ios.inApplied.get c) : Int) / 32768) ∧
    (∀ i : Fin 40, 24 ≤ i.val → t.lines.get i = s.lines.get i) ∧
    (∀ c : Fin 24, ∀ i : Fin 40, i.val = c.val →
      let l := s.lines.get i
      (l.rows = 0 → t.lines.get i = l) ∧
      (l.rows ≠ 0 →
        t.lines.get i = { l with wp := (l.wp + 1) % l.length, fill := min (l.fill + 1) l.length } ∧
        readSample t.memory t.lapse (l.address ((l.wp + 1) % l.length)) = t.ios.conditioned.get c)) ∧
    (∀ a, (∀ i : Fin 40, i.val < 24 → (s.lines.get i).rows ≠ 0 →
        a ≠ (s.lines.get i).address (((s.lines.get i).wp + 1) % (s.lines.get i).length)) →
      Memory.find t.memory a = Memory.find s.memory a ∧
        readSample t.memory t.lapse a = readSample s.memory s.lapse a) ∧
    (1 ≤ s.dmc.pendingRefresh → ∀ (c : DelayCell) (n : Nat), Memory.find t.memory c.address = some c →
      c.kept t.lapse = true → n ≤ Config.retention →
      readSample t.memory { t.lapse with windows := t.lapse.windows + n } c.address = c.sample) ∧
    t.tables = s.tables ∧ t.rrx = s.rrx ∧ t.rtx = s.rtx ∧ t.cmu = s.cmu ∧ t.tld = s.tld ∧ t.tpe = s.tpe ∧
    t.scc = s.scc ∧ t.sgd = s.sgd ∧ t.svu = s.svu ∧
    t.lapse = (if s.dmc.pendingRefresh = 0 then s.lapse else s.lapse.refreshed) ∧
    t.ios = { s.ios with conditioned := t.ios.conditioned }

/-- The units of the delay memory. An access costs its figure, 2 on-page and 4 + n off-page, and before it the larger of
the turnaround and the row gap term, all doubled in slow mode, and leaves its row open and its direction (R51 to R54).
Stage 1 serves up to two refreshes of 10 units, 20 in slow mode, which close the row (R55, R57), stage 2 writes the
enabled input lines in order (R58), and the taps get the frame budget less that spend and less the reserve for the
enabled bus lines (R59). The window end writes the enabled bus lines in order, but for those that a swap under CLEAR
reaches first (R62); the costs of taps are in TapPassKeepsToItsAllowance. -/
def Obligations.AccessesCostTheirUnits : Prop :=
  (∀ (t : Timing) (r : RowState) (dir : Access) (row : Nat),
    t.accessCost r dir row = (if t.slow then 2 else 1) *
      (max (if r.direction = none ∨ r.direction = some dir then 0 else t.turnaround)
          (if r.openRow = some row ∨ t.rowGapOn = false then 0 else t.rowGap) +
        (if r.openRow = some row then 2 else 4 + t.rowWait))) ∧
  (∀ (t : Timing) (dir : Access) (r : RowState), t.runCost dir r [] = (0, r) ∧
    ∀ (a : Nat) (rest : List Nat),
      let after := t.runCost dir ⟨some (a / 1024), some dir⟩ rest
      t.runCost dir r (a :: rest) = (t.accessCost r dir (a / 1024) + after.1, after.2)) ∧
  (∀ s : State,
    let served := min s.dmc.pendingRefresh 2
    let writes := (List.finRange 24).filterMap fun c =>
      let l := s.lines.get (Fin.ofNat 40 c.val)
      if l.rows = 0 then none else some (l.base * 1024 + (l.wp + 1) % (1024 * l.rows))
    let cost := s.dmc.timing.runCost .write
      (if served = 0 then ⟨s.dmc.openRow, s.dmc.direction⟩ else ⟨none, none⟩) writes
    (earlyStages s).dmc = { s.dmc with
      pendingRefresh := s.dmc.pendingRefresh - served
      spend := s.dmc.spend + served * (if s.dmc.timing.slow then 20 else 10) + cost.1
      openRow := cost.2.openRow, direction := cost.2.direction }) ∧
  (∀ s : State,
    let t := s.dmc.timing
    let buses := ((List.finRange 40).filter fun i => decide (24 ≤ i.val ∧ (s.lines.get i).rows ≠ 0)).length
    tapAllowance s = t.budget - s.dmc.spend - (if buses = 0 then 0 else (if t.slow then 2 else 1) *
      (t.turnaround + buses * (4 + t.rowWait + if t.rowGapOn then t.rowGap else 0)))) ∧
  (∀ s : State, rowsExist s = true → s.inWindow = true →
    ∃ (t : State) (written : Fin 16 → Bool), exec .windowEnd s = .next t ∧
      (swapClearsHere s = false → ∀ b, written b = true) ∧
      (let writes := (List.finRange 16).filterMap fun b =>
         let l := s.lines.get (Fin.ofNat 40 (24 + b.val))
         if l.rows = 0 ∨ written b = false then none else some (l.base * 1024 + l.wp)
       let cost := s.dmc.timing.runCost .write ⟨s.dmc.openRow, s.dmc.direction⟩ writes
       t.dmc = { s.dmc with
         spend := s.dmc.spend + cost.1, openRow := cost.2.openRow, direction := cost.2.direction }))

/-- The tap pass spends at most the allowance; once a tap is shed every later processed tap is; a window sheds at most
its tap count; the entries beyond the tap count keep their held values (R4, R17, R61); and a tap is shed only where the
reads up to its own cost more than the allowance: the served taps make their valid reads, x0 before x1, in table order,
at the costs of AccessesCostTheirUnits, and the shed taps none (R15, R60, R61). A served tap holds its interpolated
value, and every accumulator is the exact sum, within 2^48, of the held value times the coefficient over the processed
taps that name its destination, served or shed (R5, R17, R22, R23). -/
def Obligations.TapPassKeepsToItsAllowance : Prop :=
  ∀ s : State,
    (runTaps s).spent ≤ tapAllowance s ∧ (runTaps s).shed ≤ tapCount (activeBank s).header ∧
    ((runTaps s).shedding = false ↔ (runTaps s).shed = 0) ∧
    (let cost := fun n : Nat => s.dmc.timing.runCost .read ⟨s.dmc.openRow, s.dmc.direction⟩
       (((List.range n).map (Fin.ofNat 1024)).flatMap fun i =>
         let r := tapReads s (tapOf ((activeBank s).taps.get i))
         r.x0.toList ++ r.x1.toList)
     let served := tapCount (activeBank s).header - (runTaps s).shed
     (cost served).1 ≤ tapAllowance s ∧ (runTaps s).spent = (cost served).1 ∧ (runTaps s).row = (cost served).2 ∧
     ((runTaps s).shed ≠ 0 → tapAllowance s < (cost (served + 1)).1)) ∧
    (∀ i : Fin 1024, tapCount (activeBank s).header - (runTaps s).shed ≤ i.val →
      (runTaps s).held.get i = s.tpe.held.get i) ∧
    (∀ i : Fin 1024, i.val < tapCount (activeBank s).header - (runTaps s).shed →
      (runTaps s).held.get i = (tapReads s (tapOf ((activeBank s).taps.get i))).value s.memory s.lapse) ∧
    (rampFactor s ≤ 1024 →
      let sumFor := fun destination : Nat =>
        (((List.finRange 1024).filter fun i => i.val < tapCount (activeBank s).header &&
            (tapOf ((activeBank s).taps.get i)).destination == destination).map fun i =>
          ((runTaps s).held.get i).toInt *
            coefficient (tapOf ((activeBank s).taps.get i)) s.sgd.groups (rampFactor s)).sum
      (∀ j : Fin 48, ((runTaps s).outs.get j).toInt = sumFor j.val) ∧
      (∀ b : Fin 16, ((runTaps s).buses.get b).toInt = sumFor (48 + b.val)) ∧
      (∀ destination, (sumFor destination).natAbs ≤ 2 ^ 48))

/-- The reads of a tap. A source that is no line, or a line of length 0, is silent (R11). On an enabled line the
effective delay is 256·D + F and the offset of the tap's generator (W·T / 524288 toward minus infinity, T the triangle
of its phase, 0 without a generator), clamped to d_min and 256·(len − 2); the fraction is its low part; and each of the
two samples is read, at base·1024 and the position mod len, exactly where the fill count makes it valid (R7, R12 to R14,
R39, R40). -/
def Obligations.TapsReadTheirDelays : Prop :=
  ∀ (t : Tap) (s : State),
    (40 ≤ t.source → tapReads s t = ⟨none, none, 0⟩) ∧
    (∀ i : Fin 40, t.source = i.val →
      let l := s.lines.get i
      let r := tapReads s t
      (l.rows = 0 → r = ⟨none, none, 0⟩) ∧
      (l.rows ≠ 0 → ∃ (o : Int) (d : Nat),
        (32 ≤ t.generator → o = 0) ∧
        (∀ m : Fin 32, t.generator = m.val →
          let phase : Int := ((s.tpe.phases.get m).toNat : Int)
          let wave := if phase < 524288 then 2 * phase - 524288 else 1572864 - 2 * phase
          o = (field ((activeBank s).mods.get m).w0 15 0 : Int) * wave / 524288) ∧
        (d : Int) = max (if i.val < 24 then 0 else 256)
          (min (256 * (t.delay : Int) + t.fraction + o) (256 * (1024 * (l.rows : Int) - 2))) ∧
        (let valid := fun n : Nat => if i.val < 24 then n < l.fill else n ≤ l.fill
         let address := fun n : Nat => l.base * 1024 + (((l.wp : Int) - n) % (1024 * (l.rows : Int))).toNat
         r.fraction = d % 256 ∧
         (valid (d / 256) → r.x0 = some (address (d / 256))) ∧ (¬valid (d / 256) → r.x0 = none) ∧
         (d % 256 ≠ 0 → valid (d / 256 + 1) → r.x1 = some (address (d / 256 + 1))) ∧
         (d % 256 = 0 ∨ ¬valid (d / 256 + 1) → r.x1 = none))))

/-- The guard-scaled gain is the tap gain by the group's factor toward minus infinity, and the gain itself without a
group or at index 0 (R19); the combined coefficient is that times r over 1024 toward minus infinity, never larger in
magnitude than the gain, 0 at MUTE and at r = 0, and the guard-scaled gain itself at r = 1024 (R20). -/
def Obligations.CoefficientNeverPassesTheGain : Prop :=
  ∀ (t : Tap) (groups : Regs Group 8) (r : Nat), r ≤ 1024 → (∀ g, (groups.get g).applied ≤ 61) →
    (8 ≤ t.group → guardedGain t.gain t.group groups = t.gain) ∧
    (∀ g : Fin 8, t.group = g.val →
      guardedGain t.gain t.group groups = t.gain * (ga (groups.get g).applied : Int) / 32768 ∧
      ((groups.get g).applied = 0 → guardedGain t.gain t.group groups = t.gain)) ∧
    ga 61 = 0 ∧ ga 0 = 32768 ∧
    coefficient t groups r = guardedGain t.gain t.group groups * (r : Int) / 1024 ∧
    (coefficient t groups r).natAbs ≤ t.gain.natAbs ∧
    (∀ g : Fin 8, t.group = g.val → (groups.get g).applied = 61 → coefficient t groups r = 0) ∧
    (r = 0 → coefficient t groups r = 0) ∧
    (r = 1024 → coefficient t groups r = guardedGain t.gain t.group groups) ∧
    (guardedGain t.gain t.group groups = -17399 → r = 512 → coefficient t groups r = -8700)

/-- The interpolated value of a served tap, as an exact floor; it lies between its two samples, and with f = 0 it is the
first (R16). -/
def Obligations.InterpolationLiesBetweenItsSamples : Prop :=
  ∀ (r : TapReads) (m : Memory) (lapse : Lapse), r.fraction ≤ 255 →
    let x0 := sampleOf m lapse r.x0
    let x1 := sampleOf m lapse r.x1
    (r.x0 = none → x0 = 0) ∧ (r.x1 = none → x1 = 0) ∧
    (∀ a, r.x0 = some a → x0 = (readSample m lapse a).toInt) ∧
    (∀ a, r.x1 = some a → x1 = (readSample m lapse a).toInt) ∧
    (r.value m lapse).toInt = (x0 * (256 - (r.fraction : Int)) + x1 * (r.fraction : Int)) / 256 ∧
    min x0 x1 ≤ (r.value m lapse).toInt ∧ (r.value m lapse).toInt ≤ max x0 x1 ∧
    (r.fraction = 0 → (r.value m lapse).toInt = x0)

/-- WINDOW_END: the output samples are rounded, trimmed and saturated, and enter the output queue with their slots;
every trim moves one step; an output whose trimmed value, and a bus whose rounded value, lies outside the sample range
counts one clip (R26, R124); the ring, the loader, the stored tables but RESULTS, the memory's timing, refresh and
statistics, and the Command Unit but for the fault record are left alone; and the window is over (R24, R122 to R124,
R126). -/
def Obligations.WindowEndFinishesTheOutputs : Prop :=
  ∀ s : State, rowsExist s = true → s.inWindow = true →
    ∃ t, exec .windowEnd s = .next t ∧ t.inWindow = false ∧
      (∃ e : QueueEntry, t.ios.queue = s.ios.queue ++ [e] ∧ ∀ j, (e.get j).slot = (s.ios.outputs.get j).slot ∧
        (e.get j).sample.toInt = max (-8388608) (min (((s.tpe.outs.get j).toInt + 16384) / 32768 *
          (ga (s.ios.outApplied.get j) : Int) / 32768) 8388607)) ∧
      (let clipped := (List.finRange 48).filter fun j =>
         let v := ((s.tpe.outs.get j).toInt + 16384) / 32768 * (ga (s.ios.outApplied.get j) : Int) / 32768
         decide (v < -8388608 ∨ 8388607 < v)
       t.ios.outClips = min (s.ios.outClips + clipped.length) 65535) ∧
      (∀ i, t.ios.inApplied.get i = stepToward (s.ios.inApplied.get i) (s.ios.inputs.get i).trim) ∧
      (∀ j, t.ios.outApplied.get j = stepToward (s.ios.outApplied.get j) (s.ios.outputs.get j).trim) ∧
      t.ios.inputs = s.ios.inputs ∧ t.ios.outputs = s.ios.outputs ∧
      t.rrx = s.rrx ∧ t.rtx = s.rtx ∧ t.tld = s.tld ∧ t.tables = { s.tables with results := t.tables.results } ∧
      t.tpe.outs = s.tpe.outs ∧ t.tpe.buses = s.tpe.buses ∧
      (let clipped := (List.finRange 16).filter fun b =>
         let v := ((s.tpe.buses.get b).toInt + 16384) / 32768
         decide (v < -8388608 ∨ 8388607 < v)
       t.tpe.busClips = min (s.tpe.busClips + clipped.length) 65535) ∧
      t.cmu = { s.cmu with fault := t.cmu.fault, laterCount := t.cmu.laterCount } ∧
      t.dmc = { s.dmc with openRow := t.dmc.openRow, direction := t.dmc.direction, spend := t.dmc.spend } ∧
      t.lapse = s.lapse ∧ t.pending = s.pending

/-- The window end at the bus lines: each enabled bus line takes its bus sample at its write position and moves on,
unless a swap under CLEAR comes at this window end; the input lines stay, and so does every word of the delay memory
that no bus write goes to and a swap under CLEAR, at this window end or due after it, empties every bus line (R25 to
R27, R38, R42, R62, R75, R76). -/
def Obligations.WindowEndWritesTheBuses : Prop :=
  ∀ s : State, rowsExist s = true → s.inWindow = true → LinesInv s →
    ∃ t, exec .windowEnd s = .next t ∧
      (∀ i : Fin 40, i.val < 24 → t.lines.get i = s.lines.get i) ∧
      (∀ a, (∀ i : Fin 40, 24 ≤ i.val → (s.lines.get i).rows ≠ 0 →
          a ≠ (s.lines.get i).address (s.lines.get i).wp) →
        Memory.find t.memory a = Memory.find s.memory a) ∧
      (swapClearsHere s = false → (s.scc.swapDue = true → fadeOutEnds s = false) →
        ∀ b : Fin 16, ∀ i : Fin 40, i.val = 24 + b.val →
        let l := s.lines.get i
        let cleared := s.scc.swapDue && (s.tables.bank s.scc.active.other).header.w2.getLsbD 0
        (l.rows = 0 → t.lines.get i = if cleared then { l with wp := 0, fill := 0 } else l) ∧
        (l.rows ≠ 0 →
          t.lines.get i = (if cleared then { l with wp := 0, fill := 0 }
            else { l with wp := (l.wp + 1) % l.length, fill := min (l.fill + 1) l.length }) ∧
          (readSample t.memory t.lapse (l.address l.wp)).toInt =
            max (-8388608) (min (((s.tpe.buses.get b).toInt + 16384) / 32768) 8388607))) ∧
      (swapClearsHere s = true → s.scc.swapDue = false →
        ∀ i : Fin 40, 24 ≤ i.val → t.lines.get i = { s.lines.get i with wp := 0, fill := 0 })

/-- The window end at the guard. An enabled detector moves its envelopes by floor((e − S)/64) and floor((e − L)/16384)
for the energy e of its channel (R97), tests the rise on the new envelopes (R98), steps its debounce count (R99), trips
where that count becomes D, counts the trip by its action and its flag (R100), and steps its forgiveness timer elsewhere
(R101); a disabled one stays. On a group, REDUCE overflows raise the target by their steps up to the floor and restart
the recovery timer, a CUT overflow mutes (R104 to R106); where no REDUCE has restarted it the recovery timer steps, and
its expiry lowers a target in 1 to 60 by one (R108); and the applied index moves one step toward the target (R109). The
window raises one BUS_CLIP where a bus clips, with the lowest clipped bus, and one GUARD_CUT for each CUT overflow, with
its group, the lowest detector's first: an empty record captures the first of them with the number of the frame last
sent, of the two blocks either first, and the rest, or all where it holds a fault, are counted up to 255 (R26, R105,
R106, R172). -/
def Obligations.WindowEndStepsTheGuard : Prop :=
  ∀ s : State, rowsExist s = true → s.inWindow = true →
    ∃ t, exec .windowEnd s = .next t ∧
      (let rises := fun i : Fin 24 =>
         let d := s.sgd.detectors.get i
         let u := t.sgd.detectors.get i
         decide (lev u.slow + max 0 (min ((d.entry.threshold : Int) + d.entry.trim) 111) ≤ lev u.fast) &&
           decide (-240 ≤ lev u.fast)
       let limit := fun i : Fin 24 => [16, 64, 256, 1024].getD (s.sgd.detectors.get i).entry.debounce.val 0
       let trips := fun i : Fin 24 => rises i && (s.sgd.detectors.get i).debounce + 1 == limit i
       let latched := fun i : Fin 24 =>
         (s.sgd.detectors.get i).flag && (s.sgd.detectors.get i).entry.action != .reduce
       let last := fun i : Fin 24 =>
         decide ([1, 2, 4, 8, 16, 32, 64, 128].getD (s.sgd.detectors.get i).entry.limit.val 0 ≤
           (s.sgd.detectors.get i).trips + 1)
       let overflows := fun (a : Action) (i : Fin 24) =>
         (s.sgd.detectors.get i).entry.enable && trips i && !latched i && last i &&
           (s.sgd.detectors.get i).entry.action == a
       (∀ i, let d := s.sgd.detectors.get i
         let u := t.sgd.detectors.get i
         let x := (s.ios.conditioned.get i).toInt
         (d.entry.enable = false → u = d) ∧
         (d.entry.enable = true →
           u.entry = d.entry ∧ (u.fast : Int) = d.fast + (x * x - d.fast) / 64 ∧
           (u.slow : Int) = d.slow + (x * x - d.slow) / 16384 ∧
           u.debounce = (if rises i then (if d.debounce = limit i then d.debounce else d.debounce + 1) else 0) ∧
           (trips i = true →
             u.total = min (d.total + 1) 65535 ∧ u.forgive = 0 ∧
             (latched i = true → u.flag = d.flag ∧ u.trips = d.trips) ∧
             (latched i = false → last i = false → u.flag = d.flag ∧ u.trips = d.trips + 1) ∧
             (latched i = false → last i = true → u.flag = true ∧ u.trips = 0)) ∧
           (trips i = false →
             u.total = d.total ∧ u.flag = d.flag ∧
             (d.forgive + 1 = d.entry.forgiveness * 1024 → u.forgive = 0 ∧ u.trips = d.trips - 1) ∧
             (d.forgive + 1 ≠ d.entry.forgiveness * 1024 → u.forgive = d.forgive + 1 ∧ u.trips = d.trips)))) ∧
       (∀ g, let d := s.sgd.groups.get g
         let u := t.sgd.groups.get g
         let on := fun (a : Action) =>
           ((List.finRange 24).filter fun i => overflows a i && (s.sgd.detectors.get i).entry.group == g).length
         let target := if on .cut ≠ 0 then 61
           else if d.target ≤ 60 ∧ on .reduce ≠ 0 then min (d.target + on .reduce * d.entry.step) d.entry.floor
           else d.target
         d.entry.floor ≤ 60 →
           u.entry = d.entry ∧ u.applied = stepToward d.applied u.target ∧
           (on .reduce ≠ 0 → u.timer = 0 ∧ u.target = target) ∧
           (on .reduce = 0 → d.timer + 1 = d.entry.recovery * 256 →
             u.timer = 0 ∧ u.target = if 1 ≤ target ∧ target ≤ 60 then target - 1 else target) ∧
           (on .reduce = 0 → d.timer + 1 ≠ d.entry.recovery * 256 → u.timer = d.timer + 1 ∧ u.target = target)) ∧
       (let cuts := (List.finRange 24).filter (overflows .cut)
        let clipped := (List.finRange 16).filter fun b =>
          let v := ((s.tpe.buses.get b).toInt + 16384) / 32768
          decide (v < -8388608 ∨ 8388607 < v)
        let faults := (if clipped = [] then 0 else 1) + cuts.length
        s.cmu.laterCount ≤ 255 →
          (faults = 0 → t.cmu.fault = s.cmu.fault ∧ t.cmu.laterCount = s.cmu.laterCount) ∧
          (s.cmu.fault.isSome = true →
            t.cmu.fault = s.cmu.fault ∧ t.cmu.laterCount = min (s.cmu.laterCount + faults) 255) ∧
          (s.cmu.fault = none → faults ≠ 0 →
            t.cmu.laterCount = min (s.cmu.laterCount + (faults - 1)) 255 ∧
            ((∃ b rest, clipped = b :: rest ∧ t.cmu.fault = some ⟨.busClip, s.rtx.number, b.val⟩) ∨
              (∃ i rest, cuts = i :: rest ∧
                t.cmu.fault = some ⟨.guardCut, s.rtx.number, (s.sgd.detectors.get i).entry.group.val⟩))))) ∧
      t.sgd.clearDetectors = s.sgd.clearDetectors ∧ t.sgd.clearGroups = s.sgd.clearGroups

/-- The window end at the scene: a fade whose state the window start recorded moves one step or reaches its end, and
every other state stays (R72, R73); a swap that is due is made, in HELD or in the fade that a RESUME in this window has
begun, and leaves scene, ρ and target as they stand (R74, R76); and every generator phase advances by the rate in the
active bank's MODS, unless a swap replaces it with the initial phase and empties the held values (R8, R9, R18, R75). -/
def Obligations.WindowEndStepsTheScene : Prop :=
  ∀ s : State, rowsExist s = true → s.inWindow = true →
    ∃ t, exec .windowEnd s = .next t ∧
      (s.scc.swapDue = false →
        (s.scc.scene ≠ s.scc.windowState ∨ s.scc.scene = .steady ∨ s.scc.scene = .armed ∨ s.scc.scene = .held →
          t.scc = s.scc) ∧
        (s.scc.windowState = .fadeOut → s.scc.scene = .fadeOut →
          (2 ≤ s.scc.ramp → t.scc = { s.scc with ramp := s.scc.ramp - 1 }) ∧
          (s.scc.ramp ≤ 1 →
            (s.scc.target = some .swapFadeIn → t.scc = { s.scc with
              scene := .fadeIn, ramp := 0, target := none, active := s.scc.active.other, shadowLocked := false
              swaps := (s.scc.swaps + 1) % 65536 }) ∧
            (s.scc.target = some .swapHold → t.scc = { s.scc with
              scene := .held, ramp := 0, target := none, active := s.scc.active.other, shadowLocked := false
              swaps := (s.scc.swaps + 1) % 65536 }) ∧
            (s.scc.target = some .hold → t.scc = { s.scc with scene := .held, ramp := 0, target := none }))) ∧
        (s.scc.windowState = .fadeIn → s.scc.scene = .fadeIn →
          (s.scc.ramp + 1 < activeRamp s → t.scc = { s.scc with ramp := s.scc.ramp + 1 }) ∧
          (s.scc.ramp + 1 = activeRamp s ∨ s.scc.ramp = activeRamp s →
            t.scc = { s.scc with scene := .steady, ramp := activeRamp s })) ∧
        (t.scc.active = s.scc.active → t.tpe.held = s.tpe.held ∧ ∀ i, t.tpe.phases.get i =
          s.tpe.phases.get i + BitVec.ofNat 20 (rateOf ((activeBank s).mods.get i)))) ∧
      (s.scc.swapDue = true →
        s.scc.scene ≠ s.scc.windowState ∨ s.scc.scene = .steady ∨ s.scc.scene = .armed ∨ s.scc.scene = .held →
        t.scc = { s.scc with
          active := s.scc.active.other, shadowLocked := false, swapDue := false
          swaps := (s.scc.swaps + 1) % 65536 }) ∧
      (t.scc.active ≠ s.scc.active →
        (∀ i, t.tpe.phases.get i = initialPhaseOf ((s.tables.bank s.scc.active.other).mods.get i)) ∧
        ∀ k, t.tpe.held.get k = 0)

/-- The window end at the survey: a level measurement adds the energy, the peak and the window of its channel's sample,
and at 2^k windows writes its RESULTS entry whole, with kind, level of the mean energy, sequence, channel and peak, and
goes on by its mode; in DECAY the envelope follows the channel, waiting or measuring, and a decay measurement counts its
window, takes t20 and t30 where the level has fallen 80 and 120 quarter-dB below the reference, and finishes at t30 or
at 2^k windows with its RESULTS entry; RESULTS stay where nothing finishes; and while a start is pending a window end
adds nothing (R193, R195, R198 to R203, R210). -/
def Obligations.WindowEndMeasures : Prop :=
  (∀ (c : SurveyConfig) (s : State), rowsExist s = true → s.inWindow = true → s.svu.startPending = none →
    s.svu.config = some c →
    ∃ t, exec .windowEnd s = .next t ∧
      let channel := if c.mode = .levelSweep ∨ c.mode = .levelRepeatSweep then c.start + s.svu.position else c.start
      let x : Int :=
        if channel < 24 then (s.ios.conditioned.get (Fin.ofNat 24 channel)).toInt
        else if channel < 40 then
          max (-8388608) (min (((s.tpe.buses.get (Fin.ofNat 16 (channel - 24))).toInt + 16384) / 32768) 8388607)
        else (finishOutput (s.tpe.outs.get (Fin.ofNat 48 (channel - 40)))
          (s.ios.outApplied.get (Fin.ofNat 48 (channel - 40)))).toInt
      (c.mode ≠ .decay → s.svu.state = .measuring → s.svu.counter + 1 < 2 ^ c.exponent →
        t.tables = s.tables ∧
        t.svu = { s.svu with
          sum := s.svu.sum + (x * x).toNat, peak := max s.svu.peak x.natAbs, counter := s.svu.counter + 1
          triggerPending := t.svu.triggerPending }) ∧
      (c.mode ≠ .decay → s.svu.state = .measuring → s.svu.counter + 1 = 2 ^ c.exponent →
        s.svu.position < 16 → s.svu.peak ≤ 8388608 →
        ∃ e : Triple,
          t.tables = { s.tables with results := s.tables.results.put (Fin.ofNat 16
            (if c.mode = .levelSweep ∨ c.mode = .levelRepeatSweep then s.svu.position else 0)) e } ∧
          field e.w0 23 22 = 1 ∧ field e.w0 11 8 = 0 ∧ field e.w0 7 0 = (s.svu.sequence + 1) % 256 ∧
          signedField e.w0 21 12 = lev ((s.svu.sum + (x * x).toNat) / 2 ^ c.exponent) ∧
          (channel < 88 → e.w1.toNat = 65536 * channel) ∧ e.w2.toNat = max s.svu.peak x.natAbs ∧
          t.svu.sequence = (s.svu.sequence + 1) % 256 ∧
          (let again := fun position : Nat => { s.svu with
             sequence := t.svu.sequence, position := position, counter := 0, sum := 0, peak := 0
             triggerPending := t.svu.triggerPending }
           (c.mode = .levelRepeat → t.svu = again 0) ∧
           (c.mode = .levelRepeatSweep → t.svu = again ((s.svu.position + 1) % c.group)) ∧
           (c.mode = .levelSweep → s.svu.position + 1 < c.group → t.svu = again (s.svu.position + 1)) ∧
           (c.mode = .levelSingle ∨ (c.mode = .levelSweep ∧ c.group ≤ s.svu.position + 1) →
             (c.trigger = .now → t.svu.state = .idle) ∧
             (c.trigger ≠ .now → t.svu.state = .waiting ∧ t.svu.config = some c)))) ∧
      (c.mode = .decay → s.svu.state ≠ .idle →
        (t.svu.envelope : Int) = s.svu.envelope + (x * x - s.svu.envelope) / 64) ∧
      (c.mode = .decay → s.svu.state = .waiting → t.svu = { s.svu with
        envelope := t.svu.envelope, triggerPending := t.svu.triggerPending }) ∧
      (∀ reference, c.mode = .decay → s.svu.state = .measuring → s.svu.reference = some reference →
        let count := s.svu.counter + 1
        let level := lev t.svu.envelope
        let reach := fun (time : Option Nat) (fall : Int) =>
          if time.isSome then time else if level ≤ reference - fall then some (min count 65535) else none
        let t20 := reach s.svu.t20 80
        let t30 := reach s.svu.t30 120
        (t30 = none → count ≠ 2 ^ c.exponent → t.tables = s.tables ∧ t.svu = { s.svu with
          counter := count, t20 := t20, t30 := t30
          envelope := t.svu.envelope, triggerPending := t.svu.triggerPending }) ∧
        (t30.isSome = true ∨ count = 2 ^ c.exponent →
          t.svu = { s.svu with
            state := .waiting, counter := count, t20 := some (t20.getD 65535), t30 := some (t30.getD 65535)
            sequence := (s.svu.sequence + 1) % 256
            envelope := t.svu.envelope, triggerPending := t.svu.triggerPending } ∧
          (c.start < 88 → -480 ≤ reference → reference ≤ 0 → t20.getD 65535 ≤ 65535 → t30.getD 65535 ≤ 65535 →
            ∃ e : Triple, t.tables = { s.tables with results := s.tables.results.put 0 e } ∧
              field e.w0 23 22 = 2 ∧ signedField e.w0 21 12 = reference ∧
              field e.w0 7 0 = (s.svu.sequence + 1) % 256 ∧ field e.w0 11 8 = 0 ∧
              e.w1.toNat = 65536 * c.start + t20.getD 65535 ∧ e.w2.toNat = t30.getD 65535))) ∧
      (s.svu.state ≠ .measuring → t.tables = s.tables)) ∧
  (∀ s : State, rowsExist s = true → s.inWindow = true → s.svu.startPending.isSome = true ∨ s.svu.config = none →
    ∃ t, exec .windowEnd s = .next t ∧ t.svu = s.svu ∧ t.tables = s.tables)

/-- REFRESH_TIMER_EXPIRY while the timer runs: it restarts by the interval in force and adds a request below 7; at 7 it
counts an overrun and raises one REFRESH_OVERRUN fault, captured by an empty record and counted by one that holds a
fault (R50, R66, R67, R172). LOAD_TIMEOUT in OPEN: the load closes, what it wrote stays, and one LOAD_TIMEOUT fault
names its table (R191, R172); as a row of its own the expiry is the event alone, and in CLOSED there is none, which is
the model's choice (notes: assumption 2). -/
def Obligations.TimersRaiseTheirFaults : Prop :=
  (∀ (due : Nat) (s : State), s.dmc.refreshDue = some due →
    let next := due + s.dmc.timing.factor * (if s.dmc.timing.longBase then 98 else 25)
    let dropped := { s.dmc with refreshDue := some next, refreshOverruns := min (s.dmc.refreshOverruns + 1) 65535 }
    (s.dmc.pendingRefresh < 7 → exec .refreshTimerExpiry s = .next { s with dmc := { s.dmc with
      refreshDue := some next, pendingRefresh := s.dmc.pendingRefresh + 1 } }) ∧
    (7 ≤ s.dmc.pendingRefresh → s.cmu.fault = none → exec .refreshTimerExpiry s = .next { s with
      dmc := dropped, cmu := { s.cmu with fault := some ⟨.refreshOverrun, s.rtx.number, 0⟩ } }) ∧
    (7 ≤ s.dmc.pendingRefresh → s.cmu.fault.isSome = true → exec .refreshTimerExpiry s = .next { s with
      dmc := dropped, cmu := { s.cmu with laterCount := min (s.cmu.laterCount + 1) 255 } })) ∧
  (∀ s : State,
    let closed := { s.tld with isOpen := false, remaining := 0, partialWords := [], idle := none }
    (s.tld.isOpen = true → s.cmu.fault = none → exec .loadTimeout s = .next { s with
      tld := closed, cmu := { s.cmu with fault := some ⟨.loadTimeout, s.rtx.number, s.tld.table.id⟩ } }) ∧
    (s.tld.isOpen = true → s.cmu.fault.isSome = true → exec .loadTimeout s = .next { s with
      tld := closed, cmu := { s.cmu with laterCount := min (s.cmu.laterCount + 1) 255 } }) ∧
    (s.tld.isOpen = false → exec .loadTimeout s = .next s))

/-! ### The events inside a window end or a window start -/

/-- The guard's events as rows of their own, which is the model's choice (notes: assumption 2). FORGIVENESS_EXPIRY of an
enabled detector takes one trip back and restarts the timer (R101); RECOVERY_EXPIRY of a group lowers a target in 1 to
60 by one and restarts the timer, and leaves 0 and MUTE (R108). TRIP of an enabled detector: the total counts it, the
forgiveness timer restarts, and the trip count rises, or the detector overflows at N, or a latched NOTE or CUT detector
only counts; an overflow sets the flag and acts on the group: NOTE does no more, REDUCE raises the target by the step up
to the floor and restarts the timer, CUT mutes and raises GUARD_CUT (R99, R100, R103 to R105, R172). A disabled detector
does not trip. Every other detector and group, and the rest of the state, stay. -/
def Obligations.GuardEventsActAlone : Prop :=
  (∀ s : State,
    (∀ i, ∃ ds : Regs Detector 24,
      exec (.forgivenessExpiry i) s = .next { s with sgd := { s.sgd with detectors := ds } } ∧
      (∀ j, j ≠ i → ds.get j = s.sgd.detectors.get j) ∧
      ds.get i = if (s.sgd.detectors.get i).entry.enable then
        { s.sgd.detectors.get i with trips := (s.sgd.detectors.get i).trips - 1, forgive := 0 }
        else s.sgd.detectors.get i) ∧
    (∀ g, ∃ gs : Regs Group 8,
      exec (.recoveryExpiry g) s = .next { s with sgd := { s.sgd with groups := gs } } ∧
      (∀ h, h ≠ g → gs.get h = s.sgd.groups.get h) ∧
      gs.get g = { s.sgd.groups.get g with
        timer := 0
        target := if 1 ≤ (s.sgd.groups.get g).target ∧ (s.sgd.groups.get g).target ≤ 60 then
          (s.sgd.groups.get g).target - 1 else (s.sgd.groups.get g).target })) ∧
  (∀ (i : Fin 24) (s : State),
    let d := s.sgd.detectors.get i
    let g := s.sgd.groups.get d.entry.group
    let counted := { d with
      debounce := d.entry.debounceWindows, total := min (d.total + 1) 65535, forgive := 0 }
    (d.entry.enable = false → exec (.trip i) s = .next s) ∧
    (d.entry.enable = true →
      (d.flag = true ∧ d.entry.action ≠ .reduce → exec (.trip i) s = .next { s with
        sgd := { s.sgd with detectors := s.sgd.detectors.put i counted } }) ∧
      (d.flag = false ∨ d.entry.action = .reduce → d.trips + 1 < d.entry.tripLimit →
        exec (.trip i) s = .next { s with
          sgd := { s.sgd with detectors := s.sgd.detectors.put i { counted with trips := d.trips + 1 } } }) ∧
      (d.flag = false ∨ d.entry.action = .reduce → d.entry.tripLimit ≤ d.trips + 1 →
        let flagged := s.sgd.detectors.put i { counted with trips := 0, flag := true }
        (d.entry.action = .note → exec (.trip i) s = .next { s with sgd := { s.sgd with detectors := flagged } }) ∧
        (d.entry.action = .reduce → exec (.trip i) s = .next { s with sgd := { s.sgd with
          detectors := flagged
          groups := s.sgd.groups.put d.entry.group { g with
            timer := 0
            target := if g.target ≤ 60 then min (g.target + g.entry.step) g.entry.floor else g.target } } }) ∧
        (d.entry.action = .cut → s.cmu.fault = none → exec (.trip i) s = .next { s with
          sgd := { s.sgd with
            detectors := flagged, groups := s.sgd.groups.put d.entry.group { g with target := 61 } }
          cmu := { s.cmu with fault := some ⟨.guardCut, s.rtx.number, d.entry.group.val⟩ } }) ∧
        (d.entry.action = .cut → s.cmu.fault.isSome = true → exec (.trip i) s = .next { s with
          sgd := { s.sgd with
            detectors := flagged, groups := s.sgd.groups.put d.entry.group { g with target := 61 } }
          cmu := { s.cmu with laterCount := min (s.cmu.laterCount + 1) 255 } }))))

/-- FADE_TARGET_ACTION and FADE_IN_COMPLETE come at a window end, where a fade that the window began in reaches ρ = 0 or
ρ = R, and nowhere else: the row is that window end. The fade-out swaps and fades in, swaps and holds, or holds (R73,
R74); after a swap the phases are the new bank's initial ones, every held value is 0, and under CLEAR every bus line is
empty, whatever the phase advance and the bus writes of that window end did (R9, R18, R42, R62, R75); the fade-in is
STEADY (R72). That the row stands for the whole window end, and that it changes nothing where none is due, is the
model's choice (notes: assumption 2). -/
def Obligations.FadesReachTheirEnds : Prop :=
  ∀ s : State, rowsExist s = true →
    (let due := s.inWindow = true ∧ s.scc.scene = .fadeOut ∧ s.scc.windowState = .fadeOut ∧ s.scc.ramp ≤ 1
     (¬due → exec .fadeTargetAction s = .next s) ∧
     (due → ∃ t, exec .fadeTargetAction s = .next t ∧ exec .windowEnd s = .next t ∧ t.inWindow = false ∧
       (s.scc.swapDue = false →
         (s.scc.target = some .swapFadeIn → t.scc = { s.scc with
           scene := .fadeIn, ramp := 0, target := none, active := s.scc.active.other, shadowLocked := false
           swaps := (s.scc.swaps + 1) % 65536 }) ∧
         (s.scc.target = some .swapHold → t.scc = { s.scc with
           scene := .held, ramp := 0, target := none, active := s.scc.active.other, shadowLocked := false
           swaps := (s.scc.swaps + 1) % 65536 }) ∧
         (s.scc.target = some .hold → t.scc = { s.scc with scene := .held, ramp := 0, target := none }) ∧
         (s.scc.target = some .swapFadeIn ∨ s.scc.target = some .swapHold →
           let b := s.tables.bank s.scc.active.other
           (∀ m, t.tpe.phases.get m = BitVec.ofNat 20 (field (b.mods.get m).w2 19 0)) ∧
           (∀ k, t.tpe.held.get k = 0) ∧
           (b.header.w2.getLsbD 0 = true →
             ∀ i : Fin 40, 24 ≤ i.val → t.lines.get i = { s.lines.get i with wp := 0, fill := 0 }))))) ∧
    (let due := s.inWindow = true ∧ s.scc.scene = .fadeIn ∧ s.scc.windowState = .fadeIn ∧
       (s.scc.ramp + 1 = activeRamp s ∨ s.scc.ramp = activeRamp s)
     (¬due → exec .fadeInComplete s = .next s) ∧
     (due → ∃ t, exec .fadeInComplete s = .next t ∧ exec .windowEnd s = .next t ∧ t.inWindow = false ∧
       (s.scc.swapDue = false →
         t.scc = { s.scc with scene := .steady, ramp := rampLength (activeBank s).header })))

/-- LEVEL_FINISH while a level measurement runs: the sequence counts on, one RESULTS entry is written whole, with kind,
level, sequence, channel and peak in the places of R210, every other entry stays, and the survey goes on by its mode
(R199 to R201, R210). That a survey gone to IDLE has no configuration in force is the model's choice (notes: assumption
17), and so is that the row finishes the sums held (notes: assumption 18). DECAY_FINISH while a decay measurement runs:
entry 0 is written whole with the reference, the times (65535 for one still absent), the channel and the sequence, every
other entry stays, and the survey waits with its configuration (R203, R210). That the row finishes the times held is the
model's choice (notes: assumption 18). -/
def Obligations.FinishRowsWriteTheirEntries : Prop :=
  (∀ (c : SurveyConfig) (s : State), s.svu.state = .measuring → s.svu.config = some c → c.mode ≠ .decay →
    s.svu.position < 16 → c.start + s.svu.position < 88 → s.svu.peak ≤ 8388608 →
    ∃ (e : Triple) (svu : Svu),
      let i : Fin 16 := Fin.ofNat 16 (if c.mode.sweeps then s.svu.position else 0)
      exec .levelFinish s = .next { s with
        tables := { s.tables with results := s.tables.results.put i e }, svu := svu } ∧
      field e.w0 23 22 = 1 ∧ signedField e.w0 21 12 = lev (s.svu.sum / 2 ^ c.exponent) ∧
      field e.w0 7 0 = (s.svu.sequence + 1) % 256 ∧ field e.w0 11 8 = 0 ∧
      e.w1.toNat = 65536 * (if c.mode.sweeps then c.start + s.svu.position else c.start) ∧
      e.w2.toNat = s.svu.peak ∧
      svu.sequence = (s.svu.sequence + 1) % 256 ∧
      (c.mode = .levelRepeat →
        svu = { s.svu with sequence := svu.sequence, position := 0, counter := 0, sum := 0, peak := 0 }) ∧
      (c.mode = .levelRepeatSweep → svu = { s.svu with
        sequence := svu.sequence, position := (s.svu.position + 1) % c.group, counter := 0, sum := 0, peak := 0 }) ∧
      (c.mode = .levelSweep → s.svu.position + 1 < c.group → svu = { s.svu with
        sequence := svu.sequence, position := s.svu.position + 1, counter := 0, sum := 0, peak := 0 }) ∧
      (c.mode = .levelSingle ∨ (c.mode = .levelSweep ∧ c.group ≤ s.svu.position + 1) →
        (c.trigger = .now → svu.state = .idle ∧ svu.config = none) ∧
        (c.trigger ≠ .now → svu.state = .waiting ∧ svu.config = some c))) ∧
  (∀ (c : SurveyConfig) (s : State) (reference : Int), s.svu.state = .measuring → s.svu.config = some c →
    c.mode = .decay → c.start < 88 → s.svu.reference = some reference → -480 ≤ reference → reference ≤ 0 →
    s.svu.t20.getD 65535 ≤ 65535 → s.svu.t30.getD 65535 ≤ 65535 →
    ∃ e : Triple,
      exec .decayFinish s = .next { s with
        tables := { s.tables with results := s.tables.results.put 0 e }
        svu := { s.svu with
          state := .waiting, sequence := (s.svu.sequence + 1) % 256, t20 := some (s.svu.t20.getD 65535)
          t30 := some (s.svu.t30.getD 65535) } } ∧
      field e.w0 23 22 = 2 ∧ signedField e.w0 21 12 = reference ∧
      field e.w0 7 0 = (s.svu.sequence + 1) % 256 ∧ field e.w0 11 8 = 0 ∧
      e.w1.toNat = 65536 * c.start + s.svu.t20.getD 65535 ∧ e.w2.toNat = s.svu.t30.getD 65535)

/-! ### Scales -/

/-- The quarter-dB level of R2, in the reals: lev(0) = −480, and for 0 < v ≤ 2^46 floor(40 × log10(v / 2^46)), raised to
−480; it lies in −480 to 0, and lev(2^44) = −25. -/
def Obligations.LevelIsTheQuarterDbLogarithm : Prop :=
  lev 0 = -480 ∧
  (∀ v : Nat, 0 < v → v ≤ 2 ^ 46 →
    lev v = max (-480) ⌊40 * Real.logb 10 ((v : ℝ) / 2 ^ 46)⌋) ∧
  (∀ v : Nat, -480 ≤ lev v ∧ lev v ≤ 0) ∧ lev (2 ^ 44) = -25

/-- The linear factor of an attenuation index, in the reals: Ga(k) = round(32768 × 10^(−k/40)), a half upward, for 0 to
60, and Ga(61) = 0 (R1). -/
def Obligations.AttenuationFactorsAreRounded : Prop :=
  (∀ k : Nat, k ≤ 60 → (ga k : Int) = ⌊32768 * (10 : ℝ) ^ (-(k : ℝ) / 40) + 1 / 2⌋) ∧ ga 61 = 0 ∧ mute = 61

/-! ### What every step keeps -/

/-- The stored LINES table passes R33 and the geometry in force lies in the delay memory, no row in two lines, with
every write position and fill count in its range, after every step (R33, R34, R36); and the delay memory keeps its
canonical form and holds only words that exist, after every step from a state whose lines are in order (R31, R39). -/
def Obligations.StepsKeepTheLines : Prop :=
  (∀ s t : State, LinesInv s → step s = .next t → LinesInv t) ∧
  (∀ s t : State, LinesInv s → MemoryInv s → step s = .next t → MemoryInv t)

/-- The output queue holds one entry while a window runs and two between windows, after every step (R126). -/
def Obligations.StepsKeepTheOutputQueue : Prop :=
  ∀ s t : State, QueueInv s → step s = .next t → QueueInv t

/-- P stays in 461 to 563, the watch runs exactly in LOCKED and FLYWHEEL and the local frame timer exactly in SEARCHING
and ACQUIRING, and the counts stay in their ranges, after every step (R134, R135, R137, R138). -/
def Obligations.StepsKeepTheReceiver : Prop :=
  ∀ s t : State, ReceiverInv s → step s = .next t → ReceiverInv t

/-- The shadow lock stands exactly where R77 has it, and the loader is never OPEN while the shadow bank is locked, after
every step (R70, R76, R77). -/
def Obligations.StepsKeepTheShadowLock : Prop :=
  ∀ s t : State, SceneInv s → step s = .next t → SceneInv t

/-- The unit state agrees with the reply buffer and the assembly, the record holds at most 63 words and the buffer at
most 64 cells, after every step (R156 to R160, R165). -/
def Obligations.StepsKeepTheCommandUnit : Prop :=
  ∀ s t : State, UnitInv s → step s = .next t → UnitInv t

/-- The memory units spent in a window never exceed the frame budget in force, whatever the taps, the lines and the
commands, after every step (R49, R59, R61 to R63); and at most 7 refreshes wait, with the refresh timer running exactly
while refresh is enabled in force (R50, R66). -/
def Obligations.StepsKeepTheFrameBudget : Prop :=
  (∀ s t : State, BudgetInv s → step s = .next t → BudgetInv t) ∧
  (∀ s t : State, RefreshInv s → step s = .next t → RefreshInv t)

/-- A group's target stays at or below its floor unless it is MUTE, a detector's trip count stays below its trip limit,
and every other guard value stays in its range, after every step (R91 to R109). -/
def Obligations.StepsKeepTheGuard : Prop :=
  ∀ s t : State, GuardInv s → step s = .next t → GuardInv t

/-- A load never leaves its table, and a CLOSED loader holds nothing, after every step (R185 to R191). -/
def Obligations.StepsKeepTheLoader : Prop :=
  ∀ s t : State, LoaderInv s → step s = .next t → LoaderInv t

/-- A measurement that runs has an acceptable configuration, a channel that exists, fewer than 2^k windows and sums in
their ranges, after every step (R194 to R203). -/
def Obligations.StepsKeepTheSurvey : Prop :=
  ∀ s t : State, SurveyInv s → step s = .next t → SurveyInv t
end

