-- ==== Sys2Proof/Laws/Frames.lean ====
section
/-! SUPPORT. The bits of a frame: how many there are. -/

namespace Sys2Proof.Machine

@[simp] theorem bitsOf_length (n v : Nat) : (bitsOf n v).length = n := by
  induction n with
  | zero => rfl
  | succ n ih => simp [bitsOf, ih]

/-- Bit `i` of a field sent most significant bit first. -/
theorem bitsOf_getElem? (n v i : Nat) (h : i < n) : (bitsOf n v)[i]? = some (v.testBit (n - 1 - i)) := by
  induction n generalizing i with
  | zero => omega
  | succ n ih =>
    cases i with
    | zero => simp [bitsOf]
    | succ i =>
      have e : n + 1 - 1 - (i + 1) = n - 1 - i := by omega
      simp only [bitsOf, List.getElem?_cons_succ, e]
      exact ih i (by omega)

/-- The check covers 3110 bits (R206). -/
theorem contentBits_length (f : Frame) : (contentBits f).length = 3110 := by
  simp [contentBits, f.slots.size]

/-- A frame is 3142 bits long (R206). -/
theorem frameBits_length (f : Frame) : (frameBits f).length = 3142 := by
  simp [frameBits, contentBits_length]

end Sys2Proof.Machine
end

