-- ==== Sys2Proof/Laws/Levels.lean ====
section
/-! SUPPORT. The table of Ga is the rounded exponential of R1, and the search that computes lev finds what R2
asks for, both in exact integers. -/

namespace Sys2Proof.Machine

/-- Each Ga(k) is the nearest integer to 32768 × 10^(−k/40): 2·Ga − 1 ≤ 65536 × 10^(−k/40) < 2·Ga + 1, raised to the
40th power (R1). -/
theorem ga_rounds :
    ∀ k < 61, (2 * ga k - 1) ^ 40 * 10 ^ k ≤ 2 ^ 640 ∧ 2 ^ 640 < (2 * ga k + 1) ^ 40 * 10 ^ k := by
  decide +kernel

theorem ga_mute : ga mute = 0 := by decide

/-- An attenuation never makes a value larger than at index 0 (R1). -/
theorem ga_le : ∀ k < 62, ga k ≤ 32768 := by decide +kernel

theorem ga_zero : ga 0 = 32768 := by decide

theorem attenuate_zero (u : Int) : attenuate u 0 = u := by
  rw [attenuate, ga_zero]
  omega

theorem attenuate_mute (u : Int) : attenuate u mute = 0 := by
  rw [attenuate, ga_mute]
  simp

/-- The search stops at the first step that reaches 2^1840, or at its last step. -/
theorem levSteps_spec (fuel p m : Nat) :
    ∃ j, levSteps fuel p m = m + j ∧ j ≤ fuel ∧ (∀ i < j, p * 10 ^ i < 2 ^ 1840) ∧
      (j < fuel → 2 ^ 1840 ≤ p * 10 ^ j) := by
  induction fuel generalizing p m with
  | zero => exact ⟨0, rfl, Nat.le_refl 0, fun i hi => absurd hi (Nat.not_lt_zero i), fun h => absurd h (Nat.lt_irrefl 0)⟩
  | succ fuel ih =>
    unfold levSteps
    split
    · next h => exact ⟨0, rfl, Nat.zero_le _, fun i hi => absurd hi (Nat.not_lt_zero i), fun _ => by simpa using h⟩
    · next h =>
      obtain ⟨j, e, hj, hlow, hhigh⟩ := ih (p * 10) (m + 1)
      refine ⟨j + 1, by rw [e]; omega, by omega, ?_, ?_⟩
      · intro i hi
        cases i with
        | zero => simpa using h
        | succ i =>
          have := hlow i (by omega)
          rwa [Nat.mul_assoc, ← Nat.pow_succ'] at this
      · intro hlt
        have := hhigh (by omega)
        rwa [Nat.mul_assoc, ← Nat.pow_succ'] at this

end Sys2Proof.Machine
end

