-- ==== Sys2Proof/Laws/Memory.lean ====
section
/-! SUPPORT. The delay memory: a read after a write, and the canonical form. -/

namespace Sys2Proof.Machine

/-- The written address yields what was written. -/
theorem Memory.find_write_same (m : Memory) (a : Nat) (x : Sample) (age : Nat) :
    Memory.find (Memory.write m a x age) a = some ⟨a, x, age⟩ := by
  induction m with
  | nil => simp [Memory.write, Memory.find]
  | cons c m ih =>
    unfold Memory.write
    split
    · simp [Memory.find]
    · split
      · simp [Memory.find]
      · next h => simp [Memory.find, Ne.symm h, ih]

/-- Every other address is left alone. -/
theorem Memory.find_write_ne (m : Memory) {a b : Nat} (x : Sample) (age : Nat) (h : b ≠ a) :
    Memory.find (Memory.write m a x age) b = Memory.find m b := by
  induction m with
  | nil => simp [Memory.write, Memory.find, Ne.symm h]
  | cons c m ih =>
    unfold Memory.write
    split
    · simp [Memory.find, Ne.symm h]
    · split
      · next e => subst e; simp [Memory.find, Ne.symm h]
      · simp only [Memory.find]
        split
        · rfl
        · exact ih

/-- The canonical form says that the addresses rise strictly. -/
theorem Memory.wf_iff (m : Memory) : Memory.wf m = true ↔ (m.map DelayCell.address).Pairwise (· < ·) := by
  induction m with
  | nil => simp [Memory.wf]
  | cons c m ih =>
    cases m with
    | nil => simp [Memory.wf]
    | cons d m =>
      simp only [Memory.wf, Bool.and_eq_true, decide_eq_true_eq, ih, List.map_cons, List.pairwise_cons]
      constructor
      · rintro ⟨hlt, hd, hm⟩
        refine ⟨?_, hd, hm⟩
        intro x hx
        rcases List.mem_cons.1 hx with rfl | hx
        · exact hlt
        · exact lt_trans hlt (hd x hx)
      · rintro ⟨hc, hd, hm⟩
        exact ⟨hc _ (List.mem_cons_self ..), hd, hm⟩

/-- The addresses after a write are those before it and the one written. -/
theorem Memory.mem_write (m : Memory) (a : Nat) (x : Sample) (age : Nat) (c : DelayCell)
    (h : c ∈ Memory.write m a x age) : c = ⟨a, x, age⟩ ∨ c ∈ m := by
  induction m with
  | nil => simp [Memory.write] at h; exact .inl h
  | cons d m ih =>
    unfold Memory.write at h
    split at h
    · rcases List.mem_cons.1 h with h | h
      · exact .inl h
      · exact .inr h
    · split at h
      · rcases List.mem_cons.1 h with h | h
        · exact .inl h
        · exact .inr (List.mem_cons_of_mem _ h)
      · rcases List.mem_cons.1 h with h | h
        · exact .inr (h ▸ List.mem_cons_self ..)
        · exact (ih h).imp id (List.mem_cons_of_mem _)

/-- A write keeps the canonical form. -/
theorem Memory.wf_write (m : Memory) (a : Nat) (x : Sample) (age : Nat) (h : Memory.wf m = true) :
    Memory.wf (Memory.write m a x age) = true := by
  rw [Memory.wf_iff] at h ⊢
  induction m with
  | nil => simp [Memory.write]
  | cons c m ih =>
    rw [List.map_cons, List.pairwise_cons] at h
    unfold Memory.write
    split
    · next hlt =>
      simp only [List.map_cons, List.pairwise_cons]
      refine ⟨?_, h⟩
      intro y hy
      rcases List.mem_cons.1 hy with rfl | hy
      · exact hlt
      · exact lt_trans hlt (h.1 y hy)
    · split
      · next e =>
        subst e
        simp only [List.map_cons, List.pairwise_cons]
        exact h
      · next hn he =>
        simp only [List.map_cons, List.pairwise_cons]
        refine ⟨?_, ih h.2⟩
        intro y hy
        obtain ⟨d, hd, rfl⟩ := List.mem_map.1 hy
        rcases Memory.mem_write m a x age d hd with rfl | hd
        · show c.address < a
          omega
        · exact h.1 _ (List.mem_map_of_mem hd)

/-- A word is held for no longer than the windows without refresh since it was written. -/
theorem longestHold_le (age upto : Nat) (served : List Nat) : longestHold age upto served ≤ upto - age := by
  induction served generalizing upto with
  | nil => exact Nat.le_refl _
  | cons r rest ih =>
    have h := ih (min r upto)
    simp only [longestHold]
    omega

/-- A refresh served at this count leaves every holding as it is. -/
theorem longestHold_refreshed (age : Nat) (l : Lapse) :
    longestHold age l.refreshed.windows l.refreshed.served = longestHold age l.windows l.served := by
  unfold Lapse.refreshed
  split
  · rfl
  · simp only [longestHold, Nat.min_self]
    omega

/-- From a refresh on, the holding of a word is what it was or the windows since. -/
theorem longestHold_since_refresh (age windows n : Nat) (served : List Nat) :
    longestHold age (windows + n) (windows :: served) ≤ max n (longestHold age windows served) := by
  have h : min windows (windows + n) = windows := by omega
  simp only [longestHold, h]
  omega

@[simp] theorem Lapse.refreshed_windows (l : Lapse) : l.refreshed.windows = l.windows := by
  unfold Lapse.refreshed
  split <;> rfl

@[simp] theorem Lapse.unrefreshed_windows (l : Lapse) : l.unrefreshed.windows = l.windows + 1 := rfl
@[simp] theorem Lapse.unrefreshed_served (l : Lapse) : l.unrefreshed.served = l.served := rfl

/-- A refresh changes no sample (R55). -/
theorem readSample_refreshed (m : Memory) (l : Lapse) (a : Nat) : readSample m l.refreshed a = readSample m l a := by
  have h : ∀ c : DelayCell, c.kept l.refreshed = c.kept l := fun c => by
    rw [DelayCell.kept, DelayCell.kept, longestHold_refreshed]
  simp [readSample, h]

/-- A word just written reads back as written. -/
theorem readSample_write_same (m : Memory) (l : Lapse) (a : Nat) (x : Sample) :
    readSample (Memory.write m a x l.windows) l a = x := by
  have h : longestHold l.windows l.windows l.served ≤ Config.retention :=
    Nat.le_trans (longestHold_le ..) (by simp)
  simp [readSample, Memory.find_write_same, DelayCell.kept, h]

/-- A read of another word is not disturbed by a write. -/
theorem readSample_write_ne (m : Memory) (lapse : Lapse) {a b : Nat} (x : Sample) (age : Nat) (h : b ≠ a) :
    readSample (Memory.write m a x age) lapse b = readSample m lapse b := by
  simp [readSample, Memory.find_write_ne m x age h]

theorem reset_memory_wf : Memory.wf State.reset.memory = true := rfl

/-- The cost of an access is at most its turnaround, its row gap and an off-page figure together (R52, R53). -/
theorem accessCost_le (t : Timing) (r : RowState) (dir : Access) (row : Nat) :
    t.accessCost r dir row ≤ t.scaled (t.turnTerm r dir + (4 + t.rowWait + t.rowGapEff)) := by
  unfold Timing.accessCost Timing.gap Timing.scaled
  split <;> split <;> simp_all <;> omega

/-- Without a change of direction the turnaround term is 0 (R53). -/
theorem turnTerm_same (t : Timing) (row : Option Nat) (dir : Access) : t.turnTerm ⟨row, some dir⟩ dir = 0 := by
  simp [Timing.turnTerm]

theorem turnTerm_le (t : Timing) (r : RowState) (dir : Access) : t.turnTerm r dir ≤ t.turnaround := by
  unfold Timing.turnTerm
  split
  · exact Nat.zero_le _
  · split <;> simp

end Sys2Proof.Machine
end

