-- ==== Sys2Proof/Laws/State.lean ====
section
/-! SUPPORT. What each named update of the state leaves as it was, one lemma a field, and what reset holds. -/

namespace Sys2Proof.Machine

variable (s : State)

/-! ### raiseAt -/

@[simp] theorem raiseAt_rrx (n : BitVec 8) (k : FaultKind) (d : Nat) : (raiseAt n k d s).rrx = s.rrx := by
  unfold raiseAt
  (repeat' split) <;> rfl
@[simp] theorem raiseAt_rtx (n : BitVec 8) (k : FaultKind) (d : Nat) : (raiseAt n k d s).rtx = s.rtx := by
  unfold raiseAt
  (repeat' split) <;> rfl
@[simp] theorem raiseAt_tables (n : BitVec 8) (k : FaultKind) (d : Nat) : (raiseAt n k d s).tables = s.tables := by
  unfold raiseAt
  (repeat' split) <;> rfl
@[simp] theorem raiseAt_tld (n : BitVec 8) (k : FaultKind) (d : Nat) : (raiseAt n k d s).tld = s.tld := by
  unfold raiseAt
  (repeat' split) <;> rfl
@[simp] theorem raiseAt_lines (n : BitVec 8) (k : FaultKind) (d : Nat) : (raiseAt n k d s).lines = s.lines := by
  unfold raiseAt
  (repeat' split) <;> rfl
@[simp] theorem raiseAt_dmc (n : BitVec 8) (k : FaultKind) (d : Nat) : (raiseAt n k d s).dmc = s.dmc := by
  unfold raiseAt
  (repeat' split) <;> rfl
@[simp] theorem raiseAt_memory (n : BitVec 8) (k : FaultKind) (d : Nat) : (raiseAt n k d s).memory = s.memory := by
  unfold raiseAt
  (repeat' split) <;> rfl
@[simp] theorem raiseAt_tpe (n : BitVec 8) (k : FaultKind) (d : Nat) : (raiseAt n k d s).tpe = s.tpe := by
  unfold raiseAt
  (repeat' split) <;> rfl
@[simp] theorem raiseAt_ios (n : BitVec 8) (k : FaultKind) (d : Nat) : (raiseAt n k d s).ios = s.ios := by
  unfold raiseAt
  (repeat' split) <;> rfl
@[simp] theorem raiseAt_scc (n : BitVec 8) (k : FaultKind) (d : Nat) : (raiseAt n k d s).scc = s.scc := by
  unfold raiseAt
  (repeat' split) <;> rfl
@[simp] theorem raiseAt_sgd (n : BitVec 8) (k : FaultKind) (d : Nat) : (raiseAt n k d s).sgd = s.sgd := by
  unfold raiseAt
  (repeat' split) <;> rfl
@[simp] theorem raiseAt_svu (n : BitVec 8) (k : FaultKind) (d : Nat) : (raiseAt n k d s).svu = s.svu := by
  unfold raiseAt
  (repeat' split) <;> rfl
@[simp] theorem raiseAt_inWindow (n : BitVec 8) (k : FaultKind) (d : Nat) : (raiseAt n k d s).inWindow = s.inWindow := by
  unfold raiseAt
  (repeat' split) <;> rfl
@[simp] theorem raiseAt_lapse (n : BitVec 8) (k : FaultKind) (d : Nat) : (raiseAt n k d s).lapse = s.lapse := by
  unfold raiseAt
  (repeat' split) <;> rfl
@[simp] theorem raiseAt_draws (n : BitVec 8) (k : FaultKind) (d : Nat) : (raiseAt n k d s).draws = s.draws := by
  unfold raiseAt
  (repeat' split) <;> rfl
@[simp] theorem raiseAt_pending (n : BitVec 8) (k : FaultKind) (d : Nat) : (raiseAt n k d s).pending = s.pending := by
  unfold raiseAt
  (repeat' split) <;> rfl

/-! ### raise -/

@[simp] theorem raise_rrx (k : FaultKind) (d : Nat) : (raise k d s).rrx = s.rrx := raiseAt_rrx s _ k d
@[simp] theorem raise_rtx (k : FaultKind) (d : Nat) : (raise k d s).rtx = s.rtx := raiseAt_rtx s _ k d
@[simp] theorem raise_tables (k : FaultKind) (d : Nat) : (raise k d s).tables = s.tables := raiseAt_tables s _ k d
@[simp] theorem raise_tld (k : FaultKind) (d : Nat) : (raise k d s).tld = s.tld := raiseAt_tld s _ k d
@[simp] theorem raise_lines (k : FaultKind) (d : Nat) : (raise k d s).lines = s.lines := raiseAt_lines s _ k d
@[simp] theorem raise_dmc (k : FaultKind) (d : Nat) : (raise k d s).dmc = s.dmc := raiseAt_dmc s _ k d
@[simp] theorem raise_memory (k : FaultKind) (d : Nat) : (raise k d s).memory = s.memory := raiseAt_memory s _ k d
@[simp] theorem raise_tpe (k : FaultKind) (d : Nat) : (raise k d s).tpe = s.tpe := raiseAt_tpe s _ k d
@[simp] theorem raise_ios (k : FaultKind) (d : Nat) : (raise k d s).ios = s.ios := raiseAt_ios s _ k d
@[simp] theorem raise_scc (k : FaultKind) (d : Nat) : (raise k d s).scc = s.scc := raiseAt_scc s _ k d
@[simp] theorem raise_sgd (k : FaultKind) (d : Nat) : (raise k d s).sgd = s.sgd := raiseAt_sgd s _ k d
@[simp] theorem raise_svu (k : FaultKind) (d : Nat) : (raise k d s).svu = s.svu := raiseAt_svu s _ k d
@[simp] theorem raise_inWindow (k : FaultKind) (d : Nat) : (raise k d s).inWindow = s.inWindow := raiseAt_inWindow s _ k d
@[simp] theorem raise_lapse (k : FaultKind) (d : Nat) : (raise k d s).lapse = s.lapse := raiseAt_lapse s _ k d
@[simp] theorem raise_draws (k : FaultKind) (d : Nat) : (raise k d s).draws = s.draws := raiseAt_draws s _ k d
@[simp] theorem raise_pending (k : FaultKind) (d : Nat) : (raise k d s).pending = s.pending := raiseAt_pending s _ k d

/-! ### zeroHeld -/

@[simp] theorem zeroHeld_rrx (p : Nat → Bool) : (zeroHeld p s).rrx = s.rrx := rfl
@[simp] theorem zeroHeld_rtx (p : Nat → Bool) : (zeroHeld p s).rtx = s.rtx := rfl
@[simp] theorem zeroHeld_cmu (p : Nat → Bool) : (zeroHeld p s).cmu = s.cmu := rfl
@[simp] theorem zeroHeld_tables (p : Nat → Bool) : (zeroHeld p s).tables = s.tables := rfl
@[simp] theorem zeroHeld_tld (p : Nat → Bool) : (zeroHeld p s).tld = s.tld := rfl
@[simp] theorem zeroHeld_lines (p : Nat → Bool) : (zeroHeld p s).lines = s.lines := rfl
@[simp] theorem zeroHeld_dmc (p : Nat → Bool) : (zeroHeld p s).dmc = s.dmc := rfl
@[simp] theorem zeroHeld_memory (p : Nat → Bool) : (zeroHeld p s).memory = s.memory := rfl
@[simp] theorem zeroHeld_ios (p : Nat → Bool) : (zeroHeld p s).ios = s.ios := rfl
@[simp] theorem zeroHeld_scc (p : Nat → Bool) : (zeroHeld p s).scc = s.scc := rfl
@[simp] theorem zeroHeld_sgd (p : Nat → Bool) : (zeroHeld p s).sgd = s.sgd := rfl
@[simp] theorem zeroHeld_svu (p : Nat → Bool) : (zeroHeld p s).svu = s.svu := rfl
@[simp] theorem zeroHeld_inWindow (p : Nat → Bool) : (zeroHeld p s).inWindow = s.inWindow := rfl
@[simp] theorem zeroHeld_lapse (p : Nat → Bool) : (zeroHeld p s).lapse = s.lapse := rfl
@[simp] theorem zeroHeld_draws (p : Nat → Bool) : (zeroHeld p s).draws = s.draws := rfl
@[simp] theorem zeroHeld_pending (p : Nat → Bool) : (zeroHeld p s).pending = s.pending := rfl

/-! ### surveyTrigger -/

@[simp] theorem surveyTrigger_rrx (t : Trigger) : (surveyTrigger t s).rrx = s.rrx := by
  unfold surveyTrigger
  (repeat' split) <;> rfl
@[simp] theorem surveyTrigger_rtx (t : Trigger) : (surveyTrigger t s).rtx = s.rtx := by
  unfold surveyTrigger
  (repeat' split) <;> rfl
@[simp] theorem surveyTrigger_cmu (t : Trigger) : (surveyTrigger t s).cmu = s.cmu := by
  unfold surveyTrigger
  (repeat' split) <;> rfl
@[simp] theorem surveyTrigger_tables (t : Trigger) : (surveyTrigger t s).tables = s.tables := by
  unfold surveyTrigger
  (repeat' split) <;> rfl
@[simp] theorem surveyTrigger_tld (t : Trigger) : (surveyTrigger t s).tld = s.tld := by
  unfold surveyTrigger
  (repeat' split) <;> rfl
@[simp] theorem surveyTrigger_lines (t : Trigger) : (surveyTrigger t s).lines = s.lines := by
  unfold surveyTrigger
  (repeat' split) <;> rfl
@[simp] theorem surveyTrigger_dmc (t : Trigger) : (surveyTrigger t s).dmc = s.dmc := by
  unfold surveyTrigger
  (repeat' split) <;> rfl
@[simp] theorem surveyTrigger_memory (t : Trigger) : (surveyTrigger t s).memory = s.memory := by
  unfold surveyTrigger
  (repeat' split) <;> rfl
@[simp] theorem surveyTrigger_tpe (t : Trigger) : (surveyTrigger t s).tpe = s.tpe := by
  unfold surveyTrigger
  (repeat' split) <;> rfl
@[simp] theorem surveyTrigger_ios (t : Trigger) : (surveyTrigger t s).ios = s.ios := by
  unfold surveyTrigger
  (repeat' split) <;> rfl
@[simp] theorem surveyTrigger_scc (t : Trigger) : (surveyTrigger t s).scc = s.scc := by
  unfold surveyTrigger
  (repeat' split) <;> rfl
@[simp] theorem surveyTrigger_sgd (t : Trigger) : (surveyTrigger t s).sgd = s.sgd := by
  unfold surveyTrigger
  (repeat' split) <;> rfl
@[simp] theorem surveyTrigger_inWindow (t : Trigger) : (surveyTrigger t s).inWindow = s.inWindow := by
  unfold surveyTrigger
  (repeat' split) <;> rfl
@[simp] theorem surveyTrigger_lapse (t : Trigger) : (surveyTrigger t s).lapse = s.lapse := by
  unfold surveyTrigger
  (repeat' split) <;> rfl
@[simp] theorem surveyTrigger_draws (t : Trigger) : (surveyTrigger t s).draws = s.draws := by
  unfold surveyTrigger
  (repeat' split) <;> rfl
@[simp] theorem surveyTrigger_pending (t : Trigger) : (surveyTrigger t s).pending = s.pending := by
  unfold surveyTrigger
  (repeat' split) <;> rfl

/-! ### swap -/

@[simp] theorem swap_rrx : (swap s).rrx = s.rrx := by
  simp [swap]
@[simp] theorem swap_rtx : (swap s).rtx = s.rtx := by
  simp [swap]
@[simp] theorem swap_cmu : (swap s).cmu = s.cmu := by
  simp [swap]
@[simp] theorem swap_tables : (swap s).tables = s.tables := by
  simp [swap]
@[simp] theorem swap_tld : (swap s).tld = s.tld := by
  simp [swap]
@[simp] theorem swap_dmc : (swap s).dmc = s.dmc := by
  simp [swap]
@[simp] theorem swap_memory : (swap s).memory = s.memory := by
  simp [swap]
@[simp] theorem swap_ios : (swap s).ios = s.ios := by
  simp [swap]
@[simp] theorem swap_sgd : (swap s).sgd = s.sgd := by
  simp [swap]
@[simp] theorem swap_inWindow : (swap s).inWindow = s.inWindow := by
  simp [swap]
@[simp] theorem swap_lapse : (swap s).lapse = s.lapse := by
  simp [swap]
@[simp] theorem swap_draws : (swap s).draws = s.draws := by
  simp [swap]
@[simp] theorem swap_pending : (swap s).pending = s.pending := by
  simp [swap]

/-! ### expireLoad -/

@[simp] theorem expireLoad_rrx (n : BitVec 8) : (expireLoad n s).rrx = s.rrx := by
  simp [expireLoad]
@[simp] theorem expireLoad_rtx (n : BitVec 8) : (expireLoad n s).rtx = s.rtx := by
  simp [expireLoad]
@[simp] theorem expireLoad_tables (n : BitVec 8) : (expireLoad n s).tables = s.tables := by
  simp [expireLoad]
@[simp] theorem expireLoad_lines (n : BitVec 8) : (expireLoad n s).lines = s.lines := by
  simp [expireLoad]
@[simp] theorem expireLoad_dmc (n : BitVec 8) : (expireLoad n s).dmc = s.dmc := by
  simp [expireLoad]
@[simp] theorem expireLoad_memory (n : BitVec 8) : (expireLoad n s).memory = s.memory := by
  simp [expireLoad]
@[simp] theorem expireLoad_tpe (n : BitVec 8) : (expireLoad n s).tpe = s.tpe := by
  simp [expireLoad]
@[simp] theorem expireLoad_ios (n : BitVec 8) : (expireLoad n s).ios = s.ios := by
  simp [expireLoad]
@[simp] theorem expireLoad_scc (n : BitVec 8) : (expireLoad n s).scc = s.scc := by
  simp [expireLoad]
@[simp] theorem expireLoad_sgd (n : BitVec 8) : (expireLoad n s).sgd = s.sgd := by
  simp [expireLoad]
@[simp] theorem expireLoad_svu (n : BitVec 8) : (expireLoad n s).svu = s.svu := by
  simp [expireLoad]
@[simp] theorem expireLoad_inWindow (n : BitVec 8) : (expireLoad n s).inWindow = s.inWindow := by
  simp [expireLoad]
@[simp] theorem expireLoad_lapse (n : BitVec 8) : (expireLoad n s).lapse = s.lapse := by
  simp [expireLoad]
@[simp] theorem expireLoad_draws (n : BitVec 8) : (expireLoad n s).draws = s.draws := by
  simp [expireLoad]
@[simp] theorem expireLoad_pending (n : BitVec 8) : (expireLoad n s).pending = s.pending := by
  simp [expireLoad]

/-! ### settleExpiry -/

@[simp] theorem settleExpiry_rrx : (settleExpiry s).rrx = s.rrx := by
  unfold settleExpiry
  split <;> simp
@[simp] theorem settleExpiry_rtx : (settleExpiry s).rtx = s.rtx := by
  unfold settleExpiry
  split <;> simp
@[simp] theorem settleExpiry_tables : (settleExpiry s).tables = s.tables := by
  unfold settleExpiry
  split <;> simp
@[simp] theorem settleExpiry_lines : (settleExpiry s).lines = s.lines := by
  unfold settleExpiry
  split <;> simp
@[simp] theorem settleExpiry_dmc : (settleExpiry s).dmc = s.dmc := by
  unfold settleExpiry
  split <;> simp
@[simp] theorem settleExpiry_memory : (settleExpiry s).memory = s.memory := by
  unfold settleExpiry
  split <;> simp
@[simp] theorem settleExpiry_tpe : (settleExpiry s).tpe = s.tpe := by
  unfold settleExpiry
  split <;> simp
@[simp] theorem settleExpiry_ios : (settleExpiry s).ios = s.ios := by
  unfold settleExpiry
  split <;> simp
@[simp] theorem settleExpiry_scc : (settleExpiry s).scc = s.scc := by
  unfold settleExpiry
  split <;> simp
@[simp] theorem settleExpiry_sgd : (settleExpiry s).sgd = s.sgd := by
  unfold settleExpiry
  split <;> simp
@[simp] theorem settleExpiry_svu : (settleExpiry s).svu = s.svu := by
  unfold settleExpiry
  split <;> simp
@[simp] theorem settleExpiry_inWindow : (settleExpiry s).inWindow = s.inWindow := by
  unfold settleExpiry
  split <;> simp
@[simp] theorem settleExpiry_lapse : (settleExpiry s).lapse = s.lapse := by
  unfold settleExpiry
  split <;> simp
@[simp] theorem settleExpiry_draws : (settleExpiry s).draws = s.draws := by
  unfold settleExpiry
  split <;> simp
@[simp] theorem settleExpiry_pending : (settleExpiry s).pending = s.pending := by
  unfold settleExpiry
  split <;> simp

/-! ### zeroCounters -/

@[simp] theorem zeroCounters_rtx : (zeroCounters s).rtx = s.rtx := rfl
@[simp] theorem zeroCounters_tables : (zeroCounters s).tables = s.tables := rfl
@[simp] theorem zeroCounters_tld : (zeroCounters s).tld = s.tld := rfl
@[simp] theorem zeroCounters_lines : (zeroCounters s).lines = s.lines := rfl
@[simp] theorem zeroCounters_memory : (zeroCounters s).memory = s.memory := rfl
@[simp] theorem zeroCounters_scc : (zeroCounters s).scc = s.scc := rfl
@[simp] theorem zeroCounters_svu : (zeroCounters s).svu = s.svu := rfl
@[simp] theorem zeroCounters_inWindow : (zeroCounters s).inWindow = s.inWindow := rfl
@[simp] theorem zeroCounters_lapse : (zeroCounters s).lapse = s.lapse := rfl
@[simp] theorem zeroCounters_draws : (zeroCounters s).draws = s.draws := rfl
@[simp] theorem zeroCounters_pending : (zeroCounters s).pending = s.pending := rfl

/-! ### conditionInputs -/

@[simp] theorem conditionInputs_rrx : (conditionInputs s).rrx = s.rrx := rfl
@[simp] theorem conditionInputs_rtx : (conditionInputs s).rtx = s.rtx := rfl
@[simp] theorem conditionInputs_cmu : (conditionInputs s).cmu = s.cmu := rfl
@[simp] theorem conditionInputs_tables : (conditionInputs s).tables = s.tables := rfl
@[simp] theorem conditionInputs_tld : (conditionInputs s).tld = s.tld := rfl
@[simp] theorem conditionInputs_lines : (conditionInputs s).lines = s.lines := rfl
@[simp] theorem conditionInputs_dmc : (conditionInputs s).dmc = s.dmc := rfl
@[simp] theorem conditionInputs_memory : (conditionInputs s).memory = s.memory := rfl
@[simp] theorem conditionInputs_tpe : (conditionInputs s).tpe = s.tpe := rfl
@[simp] theorem conditionInputs_scc : (conditionInputs s).scc = s.scc := rfl
@[simp] theorem conditionInputs_sgd : (conditionInputs s).sgd = s.sgd := rfl
@[simp] theorem conditionInputs_svu : (conditionInputs s).svu = s.svu := rfl
@[simp] theorem conditionInputs_inWindow : (conditionInputs s).inWindow = s.inWindow := rfl
@[simp] theorem conditionInputs_lapse : (conditionInputs s).lapse = s.lapse := rfl
@[simp] theorem conditionInputs_draws : (conditionInputs s).draws = s.draws := rfl
@[simp] theorem conditionInputs_pending : (conditionInputs s).pending = s.pending := rfl

/-! ### writeLine -/

@[simp] theorem writeLine_rrx (l : Line) (q : Nat) (x : Sample) : (writeLine l q x s).rrx = s.rrx := rfl
@[simp] theorem writeLine_rtx (l : Line) (q : Nat) (x : Sample) : (writeLine l q x s).rtx = s.rtx := rfl
@[simp] theorem writeLine_cmu (l : Line) (q : Nat) (x : Sample) : (writeLine l q x s).cmu = s.cmu := rfl
@[simp] theorem writeLine_tables (l : Line) (q : Nat) (x : Sample) : (writeLine l q x s).tables = s.tables := rfl
@[simp] theorem writeLine_tld (l : Line) (q : Nat) (x : Sample) : (writeLine l q x s).tld = s.tld := rfl
@[simp] theorem writeLine_lines (l : Line) (q : Nat) (x : Sample) : (writeLine l q x s).lines = s.lines := rfl
@[simp] theorem writeLine_tpe (l : Line) (q : Nat) (x : Sample) : (writeLine l q x s).tpe = s.tpe := rfl
@[simp] theorem writeLine_ios (l : Line) (q : Nat) (x : Sample) : (writeLine l q x s).ios = s.ios := rfl
@[simp] theorem writeLine_scc (l : Line) (q : Nat) (x : Sample) : (writeLine l q x s).scc = s.scc := rfl
@[simp] theorem writeLine_sgd (l : Line) (q : Nat) (x : Sample) : (writeLine l q x s).sgd = s.sgd := rfl
@[simp] theorem writeLine_svu (l : Line) (q : Nat) (x : Sample) : (writeLine l q x s).svu = s.svu := rfl
@[simp] theorem writeLine_inWindow (l : Line) (q : Nat) (x : Sample) : (writeLine l q x s).inWindow = s.inWindow := rfl
@[simp] theorem writeLine_lapse (l : Line) (q : Nat) (x : Sample) : (writeLine l q x s).lapse = s.lapse := rfl
@[simp] theorem writeLine_draws (l : Line) (q : Nat) (x : Sample) : (writeLine l q x s).draws = s.draws := rfl
@[simp] theorem writeLine_pending (l : Line) (q : Nat) (x : Sample) : (writeLine l q x s).pending = s.pending := rfl

/-! ### refreshStage -/

@[simp] theorem refreshStage_rrx : (refreshStage s).rrx = s.rrx := rfl
@[simp] theorem refreshStage_rtx : (refreshStage s).rtx = s.rtx := rfl
@[simp] theorem refreshStage_cmu : (refreshStage s).cmu = s.cmu := rfl
@[simp] theorem refreshStage_tables : (refreshStage s).tables = s.tables := rfl
@[simp] theorem refreshStage_tld : (refreshStage s).tld = s.tld := rfl
@[simp] theorem refreshStage_lines : (refreshStage s).lines = s.lines := rfl
@[simp] theorem refreshStage_memory : (refreshStage s).memory = s.memory := rfl
@[simp] theorem refreshStage_tpe : (refreshStage s).tpe = s.tpe := rfl
@[simp] theorem refreshStage_ios : (refreshStage s).ios = s.ios := rfl
@[simp] theorem refreshStage_scc : (refreshStage s).scc = s.scc := rfl
@[simp] theorem refreshStage_sgd : (refreshStage s).sgd = s.sgd := rfl
@[simp] theorem refreshStage_svu : (refreshStage s).svu = s.svu := rfl
@[simp] theorem refreshStage_inWindow : (refreshStage s).inWindow = s.inWindow := rfl
@[simp] theorem refreshStage_lapse : (refreshStage s).lapse =
    if min s.dmc.pendingRefresh 2 = 0 then s.lapse else s.lapse.refreshed := rfl
@[simp] theorem refreshStage_draws : (refreshStage s).draws = s.draws := rfl
@[simp] theorem refreshStage_pending : (refreshStage s).pending = s.pending := rfl

/-! ### tapStage -/

@[simp] theorem tapStage_rrx (p : Pass) : (tapStage p s).rrx = s.rrx := rfl
@[simp] theorem tapStage_rtx (p : Pass) : (tapStage p s).rtx = s.rtx := rfl
@[simp] theorem tapStage_cmu (p : Pass) : (tapStage p s).cmu = s.cmu := rfl
@[simp] theorem tapStage_tables (p : Pass) : (tapStage p s).tables = s.tables := rfl
@[simp] theorem tapStage_tld (p : Pass) : (tapStage p s).tld = s.tld := rfl
@[simp] theorem tapStage_lines (p : Pass) : (tapStage p s).lines = s.lines := rfl
@[simp] theorem tapStage_memory (p : Pass) : (tapStage p s).memory = s.memory := rfl
@[simp] theorem tapStage_ios (p : Pass) : (tapStage p s).ios = s.ios := rfl
@[simp] theorem tapStage_scc (p : Pass) : (tapStage p s).scc = s.scc := rfl
@[simp] theorem tapStage_sgd (p : Pass) : (tapStage p s).sgd = s.sgd := rfl
@[simp] theorem tapStage_svu (p : Pass) : (tapStage p s).svu = s.svu := rfl
@[simp] theorem tapStage_inWindow (p : Pass) : (tapStage p s).inWindow = s.inWindow := rfl
@[simp] theorem tapStage_lapse (p : Pass) : (tapStage p s).lapse = s.lapse := rfl
@[simp] theorem tapStage_draws (p : Pass) : (tapStage p s).draws = s.draws := rfl
@[simp] theorem tapStage_pending (p : Pass) : (tapStage p s).pending = s.pending := rfl

/-! ### recordShed -/

@[simp] theorem recordShed_rrx (n : Nat) : (recordShed n s).rrx = s.rrx := rfl
@[simp] theorem recordShed_rtx (n : Nat) : (recordShed n s).rtx = s.rtx := rfl
@[simp] theorem recordShed_tables (n : Nat) : (recordShed n s).tables = s.tables := rfl
@[simp] theorem recordShed_tld (n : Nat) : (recordShed n s).tld = s.tld := rfl
@[simp] theorem recordShed_lines (n : Nat) : (recordShed n s).lines = s.lines := rfl
@[simp] theorem recordShed_memory (n : Nat) : (recordShed n s).memory = s.memory := rfl
@[simp] theorem recordShed_tpe (n : Nat) : (recordShed n s).tpe = s.tpe := rfl
@[simp] theorem recordShed_ios (n : Nat) : (recordShed n s).ios = s.ios := rfl
@[simp] theorem recordShed_scc (n : Nat) : (recordShed n s).scc = s.scc := rfl
@[simp] theorem recordShed_sgd (n : Nat) : (recordShed n s).sgd = s.sgd := rfl
@[simp] theorem recordShed_svu (n : Nat) : (recordShed n s).svu = s.svu := rfl
@[simp] theorem recordShed_inWindow (n : Nat) : (recordShed n s).inWindow = s.inWindow := rfl
@[simp] theorem recordShed_lapse (n : Nat) : (recordShed n s).lapse = s.lapse := rfl
@[simp] theorem recordShed_draws (n : Nat) : (recordShed n s).draws = s.draws := rfl
@[simp] theorem recordShed_pending (n : Nat) : (recordShed n s).pending = s.pending := rfl

/-! ### tapWindowEnd -/

@[simp] theorem tapWindowEnd_rrx : (tapWindowEnd s).rrx = s.rrx := rfl
@[simp] theorem tapWindowEnd_rtx : (tapWindowEnd s).rtx = s.rtx := rfl
@[simp] theorem tapWindowEnd_cmu : (tapWindowEnd s).cmu = s.cmu := rfl
@[simp] theorem tapWindowEnd_tables : (tapWindowEnd s).tables = s.tables := rfl
@[simp] theorem tapWindowEnd_tld : (tapWindowEnd s).tld = s.tld := rfl
@[simp] theorem tapWindowEnd_lines : (tapWindowEnd s).lines = s.lines := rfl
@[simp] theorem tapWindowEnd_dmc : (tapWindowEnd s).dmc = s.dmc := rfl
@[simp] theorem tapWindowEnd_memory : (tapWindowEnd s).memory = s.memory := rfl
@[simp] theorem tapWindowEnd_ios : (tapWindowEnd s).ios = s.ios := rfl
@[simp] theorem tapWindowEnd_scc : (tapWindowEnd s).scc = s.scc := rfl
@[simp] theorem tapWindowEnd_sgd : (tapWindowEnd s).sgd = s.sgd := rfl
@[simp] theorem tapWindowEnd_svu : (tapWindowEnd s).svu = s.svu := rfl
@[simp] theorem tapWindowEnd_inWindow : (tapWindowEnd s).inWindow = s.inWindow := rfl
@[simp] theorem tapWindowEnd_lapse : (tapWindowEnd s).lapse = s.lapse := rfl
@[simp] theorem tapWindowEnd_draws : (tapWindowEnd s).draws = s.draws := rfl
@[simp] theorem tapWindowEnd_pending : (tapWindowEnd s).pending = s.pending := rfl

/-! ### finishOutputs -/

@[simp] theorem finishOutputs_rrx : (finishOutputs s).rrx = s.rrx := rfl
@[simp] theorem finishOutputs_rtx : (finishOutputs s).rtx = s.rtx := rfl
@[simp] theorem finishOutputs_cmu : (finishOutputs s).cmu = s.cmu := rfl
@[simp] theorem finishOutputs_tables : (finishOutputs s).tables = s.tables := rfl
@[simp] theorem finishOutputs_tld : (finishOutputs s).tld = s.tld := rfl
@[simp] theorem finishOutputs_lines : (finishOutputs s).lines = s.lines := rfl
@[simp] theorem finishOutputs_dmc : (finishOutputs s).dmc = s.dmc := rfl
@[simp] theorem finishOutputs_memory : (finishOutputs s).memory = s.memory := rfl
@[simp] theorem finishOutputs_tpe : (finishOutputs s).tpe = s.tpe := rfl
@[simp] theorem finishOutputs_scc : (finishOutputs s).scc = s.scc := rfl
@[simp] theorem finishOutputs_sgd : (finishOutputs s).sgd = s.sgd := rfl
@[simp] theorem finishOutputs_svu : (finishOutputs s).svu = s.svu := rfl
@[simp] theorem finishOutputs_inWindow : (finishOutputs s).inWindow = s.inWindow := rfl
@[simp] theorem finishOutputs_lapse : (finishOutputs s).lapse = s.lapse := rfl
@[simp] theorem finishOutputs_draws : (finishOutputs s).draws = s.draws := rfl
@[simp] theorem finishOutputs_pending : (finishOutputs s).pending = s.pending := rfl

/-! ### guardWindowEnd -/

@[simp] theorem guardWindowEnd_rrx : (guardWindowEnd s).rrx = s.rrx := by rw [guardWindowEnd]
@[simp] theorem guardWindowEnd_rtx : (guardWindowEnd s).rtx = s.rtx := by rw [guardWindowEnd]
@[simp] theorem guardWindowEnd_cmu : (guardWindowEnd s).cmu = s.cmu := by rw [guardWindowEnd]
@[simp] theorem guardWindowEnd_tables : (guardWindowEnd s).tables = s.tables := by rw [guardWindowEnd]
@[simp] theorem guardWindowEnd_tld : (guardWindowEnd s).tld = s.tld := by rw [guardWindowEnd]
@[simp] theorem guardWindowEnd_lines : (guardWindowEnd s).lines = s.lines := by rw [guardWindowEnd]
@[simp] theorem guardWindowEnd_dmc : (guardWindowEnd s).dmc = s.dmc := by rw [guardWindowEnd]
@[simp] theorem guardWindowEnd_memory : (guardWindowEnd s).memory = s.memory := by rw [guardWindowEnd]
@[simp] theorem guardWindowEnd_tpe : (guardWindowEnd s).tpe = s.tpe := by rw [guardWindowEnd]
@[simp] theorem guardWindowEnd_ios : (guardWindowEnd s).ios = s.ios := by rw [guardWindowEnd]
@[simp] theorem guardWindowEnd_scc : (guardWindowEnd s).scc = s.scc := by rw [guardWindowEnd]
@[simp] theorem guardWindowEnd_svu : (guardWindowEnd s).svu = s.svu := by rw [guardWindowEnd]
@[simp] theorem guardWindowEnd_inWindow : (guardWindowEnd s).inWindow = s.inWindow := by rw [guardWindowEnd]
@[simp] theorem guardWindowEnd_lapse : (guardWindowEnd s).lapse = s.lapse := by rw [guardWindowEnd]
@[simp] theorem guardWindowEnd_draws : (guardWindowEnd s).draws = s.draws := by rw [guardWindowEnd]
@[simp] theorem guardWindowEnd_pending : (guardWindowEnd s).pending = s.pending := by rw [guardWindowEnd]

/-! ### putResult -/

@[simp] theorem putResult_rrx (i : Nat) (e : Triple) : (putResult i e s).rrx = s.rrx := rfl
@[simp] theorem putResult_rtx (i : Nat) (e : Triple) : (putResult i e s).rtx = s.rtx := rfl
@[simp] theorem putResult_cmu (i : Nat) (e : Triple) : (putResult i e s).cmu = s.cmu := rfl
@[simp] theorem putResult_tld (i : Nat) (e : Triple) : (putResult i e s).tld = s.tld := rfl
@[simp] theorem putResult_lines (i : Nat) (e : Triple) : (putResult i e s).lines = s.lines := rfl
@[simp] theorem putResult_dmc (i : Nat) (e : Triple) : (putResult i e s).dmc = s.dmc := rfl
@[simp] theorem putResult_memory (i : Nat) (e : Triple) : (putResult i e s).memory = s.memory := rfl
@[simp] theorem putResult_tpe (i : Nat) (e : Triple) : (putResult i e s).tpe = s.tpe := rfl
@[simp] theorem putResult_ios (i : Nat) (e : Triple) : (putResult i e s).ios = s.ios := rfl
@[simp] theorem putResult_scc (i : Nat) (e : Triple) : (putResult i e s).scc = s.scc := rfl
@[simp] theorem putResult_sgd (i : Nat) (e : Triple) : (putResult i e s).sgd = s.sgd := rfl
@[simp] theorem putResult_svu (i : Nat) (e : Triple) : (putResult i e s).svu = s.svu := rfl
@[simp] theorem putResult_inWindow (i : Nat) (e : Triple) : (putResult i e s).inWindow = s.inWindow := rfl
@[simp] theorem putResult_lapse (i : Nat) (e : Triple) : (putResult i e s).lapse = s.lapse := rfl
@[simp] theorem putResult_draws (i : Nat) (e : Triple) : (putResult i e s).draws = s.draws := rfl
@[simp] theorem putResult_pending (i : Nat) (e : Triple) : (putResult i e s).pending = s.pending := rfl

/-! ### discardAssembly -/

@[simp] theorem discardAssembly_rrx : (discardAssembly s).rrx = s.rrx := by
  unfold discardAssembly
  (repeat' split) <;> rfl
@[simp] theorem discardAssembly_rtx : (discardAssembly s).rtx = s.rtx := by
  unfold discardAssembly
  (repeat' split) <;> rfl
@[simp] theorem discardAssembly_tables : (discardAssembly s).tables = s.tables := by
  unfold discardAssembly
  (repeat' split) <;> rfl
@[simp] theorem discardAssembly_tld : (discardAssembly s).tld = s.tld := by
  unfold discardAssembly
  (repeat' split) <;> rfl
@[simp] theorem discardAssembly_lines : (discardAssembly s).lines = s.lines := by
  unfold discardAssembly
  (repeat' split) <;> rfl
@[simp] theorem discardAssembly_dmc : (discardAssembly s).dmc = s.dmc := by
  unfold discardAssembly
  (repeat' split) <;> rfl
@[simp] theorem discardAssembly_memory : (discardAssembly s).memory = s.memory := by
  unfold discardAssembly
  (repeat' split) <;> rfl
@[simp] theorem discardAssembly_tpe : (discardAssembly s).tpe = s.tpe := by
  unfold discardAssembly
  (repeat' split) <;> rfl
@[simp] theorem discardAssembly_ios : (discardAssembly s).ios = s.ios := by
  unfold discardAssembly
  (repeat' split) <;> rfl
@[simp] theorem discardAssembly_scc : (discardAssembly s).scc = s.scc := by
  unfold discardAssembly
  (repeat' split) <;> rfl
@[simp] theorem discardAssembly_sgd : (discardAssembly s).sgd = s.sgd := by
  unfold discardAssembly
  (repeat' split) <;> rfl
@[simp] theorem discardAssembly_svu : (discardAssembly s).svu = s.svu := by
  unfold discardAssembly
  (repeat' split) <;> rfl
@[simp] theorem discardAssembly_inWindow : (discardAssembly s).inWindow = s.inWindow := by
  unfold discardAssembly
  (repeat' split) <;> rfl
@[simp] theorem discardAssembly_lapse : (discardAssembly s).lapse = s.lapse := by
  unfold discardAssembly
  (repeat' split) <;> rfl
@[simp] theorem discardAssembly_draws : (discardAssembly s).draws = s.draws := by
  unfold discardAssembly
  (repeat' split) <;> rfl
@[simp] theorem discardAssembly_pending : (discardAssembly s).pending = s.pending := by
  unfold discardAssembly
  (repeat' split) <;> rfl

/-! ### damageMessage -/

@[simp] theorem damageMessage_rrx : (damageMessage s).rrx = s.rrx := by
  unfold damageMessage
  (repeat' split) <;> rfl
@[simp] theorem damageMessage_rtx : (damageMessage s).rtx = s.rtx := by
  unfold damageMessage
  (repeat' split) <;> rfl
@[simp] theorem damageMessage_tables : (damageMessage s).tables = s.tables := by
  unfold damageMessage
  (repeat' split) <;> rfl
@[simp] theorem damageMessage_tld : (damageMessage s).tld = s.tld := by
  unfold damageMessage
  (repeat' split) <;> rfl
@[simp] theorem damageMessage_lines : (damageMessage s).lines = s.lines := by
  unfold damageMessage
  (repeat' split) <;> rfl
@[simp] theorem damageMessage_dmc : (damageMessage s).dmc = s.dmc := by
  unfold damageMessage
  (repeat' split) <;> rfl
@[simp] theorem damageMessage_memory : (damageMessage s).memory = s.memory := by
  unfold damageMessage
  (repeat' split) <;> rfl
@[simp] theorem damageMessage_tpe : (damageMessage s).tpe = s.tpe := by
  unfold damageMessage
  (repeat' split) <;> rfl
@[simp] theorem damageMessage_ios : (damageMessage s).ios = s.ios := by
  unfold damageMessage
  (repeat' split) <;> rfl
@[simp] theorem damageMessage_scc : (damageMessage s).scc = s.scc := by
  unfold damageMessage
  (repeat' split) <;> rfl
@[simp] theorem damageMessage_sgd : (damageMessage s).sgd = s.sgd := by
  unfold damageMessage
  (repeat' split) <;> rfl
@[simp] theorem damageMessage_svu : (damageMessage s).svu = s.svu := by
  unfold damageMessage
  (repeat' split) <;> rfl
@[simp] theorem damageMessage_inWindow : (damageMessage s).inWindow = s.inWindow := by
  unfold damageMessage
  (repeat' split) <;> rfl
@[simp] theorem damageMessage_lapse : (damageMessage s).lapse = s.lapse := by
  unfold damageMessage
  (repeat' split) <;> rfl
@[simp] theorem damageMessage_draws : (damageMessage s).draws = s.draws := by
  unfold damageMessage
  (repeat' split) <;> rfl
@[simp] theorem damageMessage_pending : (damageMessage s).pending = s.pending := by
  unfold damageMessage
  (repeat' split) <;> rfl

/-! ### abandonTraffic -/

@[simp] theorem abandonTraffic_rrx : (abandonTraffic s).rrx = s.rrx := discardAssembly_rrx s
@[simp] theorem abandonTraffic_rtx : (abandonTraffic s).rtx = s.rtx := discardAssembly_rtx s
@[simp] theorem abandonTraffic_tables : (abandonTraffic s).tables = s.tables := discardAssembly_tables s
@[simp] theorem abandonTraffic_tld : (abandonTraffic s).tld = s.tld := discardAssembly_tld s
@[simp] theorem abandonTraffic_lines : (abandonTraffic s).lines = s.lines := discardAssembly_lines s
@[simp] theorem abandonTraffic_dmc : (abandonTraffic s).dmc = s.dmc := discardAssembly_dmc s
@[simp] theorem abandonTraffic_memory : (abandonTraffic s).memory = s.memory := discardAssembly_memory s
@[simp] theorem abandonTraffic_tpe : (abandonTraffic s).tpe = s.tpe := discardAssembly_tpe s
@[simp] theorem abandonTraffic_ios : (abandonTraffic s).ios = s.ios := discardAssembly_ios s
@[simp] theorem abandonTraffic_scc : (abandonTraffic s).scc = s.scc := discardAssembly_scc s
@[simp] theorem abandonTraffic_sgd : (abandonTraffic s).sgd = s.sgd := discardAssembly_sgd s
@[simp] theorem abandonTraffic_svu : (abandonTraffic s).svu = s.svu := discardAssembly_svu s
@[simp] theorem abandonTraffic_inWindow : (abandonTraffic s).inWindow = s.inWindow := discardAssembly_inWindow s
@[simp] theorem abandonTraffic_lapse : (abandonTraffic s).lapse = s.lapse := discardAssembly_lapse s
@[simp] theorem abandonTraffic_draws : (abandonTraffic s).draws = s.draws := discardAssembly_draws s
@[simp] theorem abandonTraffic_pending : (abandonTraffic s).pending = s.pending := discardAssembly_pending s

/-! ### takeGeometry -/

@[simp] theorem takeGeometry_rrx : (takeGeometry s).rrx = s.rrx := by simp [takeGeometry]
@[simp] theorem takeGeometry_rtx : (takeGeometry s).rtx = s.rtx := by simp [takeGeometry]
@[simp] theorem takeGeometry_cmu : (takeGeometry s).cmu = s.cmu := by simp [takeGeometry]
@[simp] theorem takeGeometry_tables : (takeGeometry s).tables = s.tables := by simp [takeGeometry]
@[simp] theorem takeGeometry_tld : (takeGeometry s).tld = s.tld := by simp [takeGeometry]
@[simp] theorem takeGeometry_dmc : (takeGeometry s).dmc = s.dmc := by simp [takeGeometry]
@[simp] theorem takeGeometry_memory : (takeGeometry s).memory = s.memory := by simp [takeGeometry]
@[simp] theorem takeGeometry_ios : (takeGeometry s).ios = s.ios := by simp [takeGeometry]
@[simp] theorem takeGeometry_scc : (takeGeometry s).scc = s.scc := by simp [takeGeometry]
@[simp] theorem takeGeometry_sgd : (takeGeometry s).sgd = s.sgd := by simp [takeGeometry]
@[simp] theorem takeGeometry_svu : (takeGeometry s).svu = s.svu := by simp [takeGeometry]
@[simp] theorem takeGeometry_inWindow : (takeGeometry s).inWindow = s.inWindow := by simp [takeGeometry]
@[simp] theorem takeGeometry_lapse : (takeGeometry s).lapse = s.lapse := by simp [takeGeometry]
@[simp] theorem takeGeometry_draws : (takeGeometry s).draws = s.draws := by simp [takeGeometry]
@[simp] theorem takeGeometry_pending : (takeGeometry s).pending = s.pending := by simp [takeGeometry]

/-! ### restartBlocks -/

@[simp] theorem restartBlocks_rrx : (restartBlocks s).rrx = s.rrx := rfl
@[simp] theorem restartBlocks_rtx : (restartBlocks s).rtx = s.rtx := rfl
@[simp] theorem restartBlocks_tables : (restartBlocks s).tables = s.tables := rfl
@[simp] theorem restartBlocks_tld : (restartBlocks s).tld = s.tld := rfl
@[simp] theorem restartBlocks_memory : (restartBlocks s).memory = s.memory := rfl
@[simp] theorem restartBlocks_ios : (restartBlocks s).ios = s.ios := rfl
@[simp] theorem restartBlocks_sgd : (restartBlocks s).sgd = s.sgd := rfl
@[simp] theorem restartBlocks_svu : (restartBlocks s).svu = s.svu := rfl
@[simp] theorem restartBlocks_inWindow : (restartBlocks s).inWindow = s.inWindow := rfl
@[simp] theorem restartBlocks_lapse : (restartBlocks s).lapse = s.lapse := rfl
@[simp] theorem restartBlocks_draws : (restartBlocks s).draws = s.draws := rfl
@[simp] theorem restartBlocks_pending : (restartBlocks s).pending = s.pending := rfl

/-! ### memoryWindowStart -/

@[simp] theorem memoryWindowStart_rrx (t : Nat) : (memoryWindowStart t s).rrx = s.rrx := rfl
@[simp] theorem memoryWindowStart_rtx (t : Nat) : (memoryWindowStart t s).rtx = s.rtx := rfl
@[simp] theorem memoryWindowStart_cmu (t : Nat) : (memoryWindowStart t s).cmu = s.cmu := rfl
@[simp] theorem memoryWindowStart_tables (t : Nat) : (memoryWindowStart t s).tables = s.tables := rfl
@[simp] theorem memoryWindowStart_tld (t : Nat) : (memoryWindowStart t s).tld = s.tld := rfl
@[simp] theorem memoryWindowStart_lines (t : Nat) : (memoryWindowStart t s).lines = s.lines := rfl
@[simp] theorem memoryWindowStart_memory (t : Nat) : (memoryWindowStart t s).memory = s.memory := rfl
@[simp] theorem memoryWindowStart_tpe (t : Nat) : (memoryWindowStart t s).tpe = s.tpe := rfl
@[simp] theorem memoryWindowStart_ios (t : Nat) : (memoryWindowStart t s).ios = s.ios := rfl
@[simp] theorem memoryWindowStart_scc (t : Nat) : (memoryWindowStart t s).scc = s.scc := rfl
@[simp] theorem memoryWindowStart_sgd (t : Nat) : (memoryWindowStart t s).sgd = s.sgd := rfl
@[simp] theorem memoryWindowStart_svu (t : Nat) : (memoryWindowStart t s).svu = s.svu := rfl
@[simp] theorem memoryWindowStart_inWindow (t : Nat) : (memoryWindowStart t s).inWindow = s.inWindow := rfl
@[simp] theorem memoryWindowStart_draws (t : Nat) : (memoryWindowStart t s).draws = s.draws := rfl
@[simp] theorem memoryWindowStart_pending (t : Nat) : (memoryWindowStart t s).pending = s.pending := rfl

/-! ### sendAs -/

@[simp] theorem sendAs_rrx (m : TxMode) (f : Frame) : (sendAs m f s).rrx = s.rrx := rfl
@[simp] theorem sendAs_cmu (m : TxMode) (f : Frame) : (sendAs m f s).cmu = s.cmu := rfl
@[simp] theorem sendAs_tables (m : TxMode) (f : Frame) : (sendAs m f s).tables = s.tables := rfl
@[simp] theorem sendAs_tld (m : TxMode) (f : Frame) : (sendAs m f s).tld = s.tld := rfl
@[simp] theorem sendAs_lines (m : TxMode) (f : Frame) : (sendAs m f s).lines = s.lines := rfl
@[simp] theorem sendAs_dmc (m : TxMode) (f : Frame) : (sendAs m f s).dmc = s.dmc := rfl
@[simp] theorem sendAs_memory (m : TxMode) (f : Frame) : (sendAs m f s).memory = s.memory := rfl
@[simp] theorem sendAs_tpe (m : TxMode) (f : Frame) : (sendAs m f s).tpe = s.tpe := rfl
@[simp] theorem sendAs_scc (m : TxMode) (f : Frame) : (sendAs m f s).scc = s.scc := rfl
@[simp] theorem sendAs_sgd (m : TxMode) (f : Frame) : (sendAs m f s).sgd = s.sgd := rfl
@[simp] theorem sendAs_svu (m : TxMode) (f : Frame) : (sendAs m f s).svu = s.svu := rfl
@[simp] theorem sendAs_inWindow (m : TxMode) (f : Frame) : (sendAs m f s).inWindow = s.inWindow := rfl
@[simp] theorem sendAs_lapse (m : TxMode) (f : Frame) : (sendAs m f s).lapse = s.lapse := rfl
@[simp] theorem sendAs_draws (m : TxMode) (f : Frame) : (sendAs m f s).draws = s.draws := rfl
@[simp] theorem sendAs_pending (m : TxMode) (f : Frame) : (sendAs m f s).pending = s.pending := rfl

end Sys2Proof.Machine
end

