-- ==== Sys2Proof/Laws/Messages.lean ====
section
/-! SUPPORT. A message row in closed form: the cells of a message that can be taken leave its record, and the command
is judged on it. -/

namespace Sys2Proof.Machine

/-- The Command Unit when a message's END is taken: the record, and no assembly. -/
def delivered (c : Command) (args : List Word) (s : State) : State :=
  { s with cmu := { withRecord c args s.cmu with
    unit := if s.cmu.unit = .replying then .replying else .assembling } }

theorem field_placed (lo width v : Nat) (hi : Nat) (h : hi + 1 = lo + width) (h24 : hi < 24) :
    field (placed lo width v) hi lo = v % 2 ^ width := by
  have hw : 2 ^ width * 2 ^ lo ≤ 2 ^ 24 := by
    rw [← Nat.pow_add]
    exact Nat.pow_le_pow_right (by decide) (by omega)
  have hv : v % 2 ^ width < 2 ^ width := Nat.mod_lt _ (Nat.two_pow_pos width)
  have hlt : (v % 2 ^ width) <<< lo < 2 ^ 24 := by
    rw [Nat.shiftLeft_eq]
    exact lt_of_lt_of_le (Nat.mul_lt_mul_of_pos_right hv (Nat.two_pow_pos lo)) hw
  unfold field placed
  rw [BitVec.toNat_ofNat, Nat.mod_eq_of_lt hlt, Nat.shiftLeft_shiftRight,
    show hi + 1 - lo = width by omega, Nat.mod_eq_of_lt hv]

theorem commandOf_code (c : Command) : commandOf c.code = some c := by
  cases c <;> rfl

theorem code_lt (c : Command) : c.code < 256 := by
  cases c <;> decide

theorem headerWord_toNat (c : Command) (args : List Word) :
    (headerWord c args).toNat = c.code * 65536 + args.length % 64 := by
  have h := code_lt c
  have h2 : args.length % 64 < 64 := Nat.mod_lt _ (by decide)
  unfold headerWord placed
  rw [BitVec.toNat_or, BitVec.toNat_ofNat, BitVec.toNat_ofNat, Nat.mod_eq_of_lt (show c.code < 2 ^ 8 by omega),
    Nat.shiftLeft_eq, Nat.shiftLeft_eq, Nat.mod_eq_of_lt (by omega), Nat.mod_eq_of_lt (by omega)]
  rw [← Nat.shiftLeft_eq, Nat.pow_zero, Nat.mul_one, ← Nat.shiftLeft_add_eq_or_of_lt (by omega), Nat.shiftLeft_eq]
  norm_num

theorem headerCode_headerWord (c : Command) (args : List Word) : headerCode (headerWord c args) = c.code := by
  have h := code_lt c
  have h2 : args.length % 64 < 64 := Nat.mod_lt _ (by decide)
  rw [headerCode, field, headerWord_toNat, Nat.shiftRight_eq_div_pow]
  omega

theorem headerCount_headerWord (c : Command) (args : List Word) (hl : args.length ≤ 62) :
    headerCount (headerWord c args) = args.length := by
  rw [headerCount, field, headerWord_toNat, Nat.shiftRight_eq_div_pow]
  omega

/-- WORD cells that fit are appended in order (R157). -/
theorem wordCells (l : List Word) (s : State) (v : Addressee) (h : s.cmu.assembly = some v)
    (hn : s.cmu.words.length + l.length ≤ 63) :
    l.foldl (fun t w => wordCell w t) s = { s with cmu := { s.cmu with words := s.cmu.words ++ l } } := by
  induction l generalizing s with
  | nil => simp
  | cons w l ih =>
    have : s.cmu.words.length < 63 := by simp at hn; omega
    rw [List.foldl_cons, wordCell, h]
    simp only [this, if_true]
    rw [ih _ (by simpa using h) (by simp at hn ⊢; omega)]
    simp

/-- The cells of a message that can be taken: the command is judged on the record they leave (R155 to R161). -/
theorem takeMessage_eq (via : Addressee) (c : Command) (args : List Word) (s : State) (h : Ready via s)
    (hl : args.length ≤ 62) :
    takeMessage via c args s = takeCommand via c args (delivered c args s) := by
  obtain ⟨hr, ha, hv⟩ := h
  have hsel : ∃ a, addressFor via s.cmu = some a ∧
      selectCell a s = { s with cmu := { s.cmu with
        unit := if s.cmu.unit = .replying then .replying else .assembling
        assembly := some via, words := [], overflow := false, damaged := false } } := by
    cases via with
    | broadcast =>
      refine ⟨63#24, rfl, ?_⟩
      simp [selectCell, selectAddress, field, discardAssembly, ha, beginAssembly]
    | addressed =>
      obtain ⟨hn, hu⟩ := hv rfl
      obtain ⟨a, ha'⟩ := Option.isSome_iff_exists.1 hn
      refine ⟨BitVec.ofNat 24 a.val, by simp [addressFor, ha'], ?_⟩
      have haa : selectAddress (BitVec.ofNat 24 a.val) = a.val := by
        have := a.isLt
        simp only [selectAddress, field, BitVec.toNat_ofNat, Nat.shiftRight_zero]
        omega
      have h63 : a.val ≠ 63 := by have := a.isLt; omega
      simp [selectCell, haa, h63, ha', hu, discardAssembly, ha, beginAssembly]
  obtain ⟨a, h1, h2⟩ := hsel
  rw [takeMessage, hr, if_pos rfl, h1]
  simp only
  rw [h2, wordCells _ _ via rfl (by simp; omega)]
  simp only [endCell, completeMessage, List.nil_append, headerCode_headerWord, headerCount_headerWord c args hl, commandOf_code]
  have e : ({ s with cmu := { s.cmu with
        unit := if s.cmu.unit = .replying then .replying else .assembling
        assembly := none, words := headerWord c args :: args, overflow := false, damaged := false } } : State) = delivered c args s := by
    simp only [delivered, withRecord, ha]
  simp [e]
/-- A verdict on the state a message leaves, answered (R163, R165). -/
theorem answer_delivered (via : Addressee) (c : Command) (args : List Word) (status : Status)
    (data : List Word) (t : State) (hn : via = .addressed → t.cmu.nodeAddress.isSome = true) :
    answer via c.code ⟨delivered c args t, status, data⟩ = answered via c args status data t := by
  cases via with
  | broadcast =>
    simp only [answer, noReply, delivered, answered, withRecord]
    split <;> simp_all
  | addressed =>
    obtain ⟨a, ha⟩ := Option.isSome_iff_exists.1 (hn rfl)
    simp only [answer, formReply, delivered, answered, withRecord, ha]
    rfl

theorem exec_row (c : Command) (via : Addressee) (args : List Word) (s : State) :
    exec (c.row via args) s = .next (takeMessage via c args s) := by
  cases c <;> rfl

/-- A message with an argument count the command accepts, to whom it may be sent: the owner's verdict, answered
(R161, R164). -/
theorem exec_row_run (c : Command) (via : Addressee) (args : List Word) (s : State) (h : Ready via s)
    (hl : args.length ≤ 62) (hb : via = .broadcast → c.mayBroadcast = true) (ha : c.accepts args = true) :
    exec (c.row via args) s =
      .next (c.afterReply (c.run args (delivered c args s)).status
        (answer via c.code (c.run args (delivered c args s)))) := by
  rw [exec_row, takeMessage_eq via c args s h hl, takeCommand, if_neg, if_neg]
  · simp [ha]
  · rintro ⟨h1, h2⟩
    exact h2 (hb h1)

end Sys2Proof.Machine
end

