-- ==== Sys2Proof/Laws/Ops.lean ====
section
/-! SUPPORT. What each shared operation can do, said once: the forms its answer takes. -/

namespace Sys2Proof.Machine

variable {s t : State}

/-! ### Faults, lines and triggers -/

/-- A fault is captured by an empty record, or counted by one that holds a fault. -/
theorem raiseAt_cases (n : BitVec 8) (k : FaultKind) (d : Nat) (s : State) :
    (s.cmu.fault = none ∧
      raiseAt n k d s = { s with cmu := { s.cmu with fault := some ⟨k, n, d⟩ } }) ∨
    (s.cmu.fault.isSome = true ∧
      raiseAt n k d s = { s with cmu := { s.cmu with laterCount := min (s.cmu.laterCount + 1) 255 } }) := by
  unfold raiseAt
  split
  · next h => exact .inl ⟨h, rfl⟩
  · next h => exact .inr ⟨by rw [h]; rfl, rfl⟩

/-- A trigger changes the pending trigger alone. -/
theorem surveyTrigger_cases (k : Trigger) (s : State) :
    surveyTrigger k s = s ∨
    (∃ c, s.svu.state ≠ .idle ∧ s.svu.startPending = none ∧ s.svu.config = some c ∧ c.trigger = k ∧
      surveyTrigger k s = { s with svu := { s.svu with triggerPending := true } }) := by
  unfold surveyTrigger
  split
  · exact .inl rfl
  · exact .inl rfl
  · exact .inl rfl
  · next c hp hc hs =>
    split
    · next h => exact .inr ⟨c, fun he => hs he, hp, hc, h, rfl⟩
    · exact .inl rfl

/-- A due swap is made between windows alone. -/
theorem settleSwap_cases (s : State) :
    (s.scc.swapDue = true ∧ s.inWindow = false ∧ settleSwap s = swap s) ∨
    ((s.scc.swapDue = false ∨ s.inWindow = true) ∧ settleSwap s = s) := by
  unfold settleSwap
  cases h1 : s.scc.swapDue <;> cases h2 : s.inWindow <;> simp

/-! ### The Command Unit -/

/-- A partial message is discarded and counted, and nothing else changes. -/
theorem discardAssembly_cases (s : State) :
    (s.cmu.assembly = none ∧ discardAssembly s = s) ∨
    (s.cmu.assembly.isSome = true ∧ discardAssembly s = { s with cmu := { s.cmu with
      assembly := none, truncated := saturate s.cmu.truncated 1 } }) := by
  unfold discardAssembly
  split
  · next h => exact .inl ⟨h, rfl⟩
  · next h => exact .inr ⟨by rw [h]; rfl, rfl⟩

/-- A failing frame marks a message in progress damaged, and nothing else. -/
theorem damageMessage_eq (s : State) :
    damageMessage s =
      { s with cmu := { s.cmu with damaged := s.cmu.damaged || s.cmu.assembly.isSome } } := by
  obtain ⟨rrx, rtx, cmu, _⟩ := s
  obtain ⟨u, assembly, _⟩ := cmu
  cases assembly <;> simp [damageMessage]

/-- The cell a good frame offers: none, the last of a reply, or one of several. -/
theorem offerCell_cases (c : Cmu) :
    (c.replyBuffer = [] ∧ offerCell c = (none, c)) ∨
    (∃ last, c.replyBuffer = [last] ∧ offerCell c = (some last, { c with
      replyBuffer := [], headerHeld := false, unit := if c.assembly.isSome then .assembling else .idle })) ∨
    (∃ head next rest, c.replyBuffer = head :: next :: rest ∧
      offerCell c = (some head, { c with replyBuffer := next :: rest, headerHeld := false })) := by
  unfold offerCell
  split
  · next h => exact .inl ⟨h, rfl⟩
  · next last h => exact .inr (.inl ⟨last, h, rfl⟩)
  · next head rest hne h =>
    cases rest with
    | nil => exact absurd rfl hne
    | cons next rest => exact .inr (.inr ⟨head, next, rest, h, rfl⟩)

/-- A cell selects, appends a word, ends a message, or does nothing. -/
theorem takeCell_cases (kind : BitVec 4) (payload : Word) (s : State) :
    (kind = 1#4 ∧ takeCell kind payload s = selectCell payload s) ∨
    (kind = 2#4 ∧ takeCell kind payload s = wordCell payload s) ∨
    (kind = 3#4 ∧ takeCell kind payload s = endCell s) ∨ takeCell kind payload s = s := by
  unfold takeCell
  split
  · next h => exact .inl ⟨h, rfl⟩
  · split
    · next h => exact .inr (.inl ⟨h, rfl⟩)
    · split
      · next h => exact .inr (.inr (.inl ⟨h, rfl⟩))
      · exact .inr (.inr (.inr rfl))

/-! ### The scene -/

/-- A mark starts the fade-out of an armed scene, and nothing else. -/
theorem sceneMark_cases (s : State) :
    (s.scc.scene = .armed ∧ sceneMark s = { s with scc := { s.scc with
      scene := .fadeOut, ramp := activeRamp s, target := some .swapFadeIn } }) ∨
    (s.scc.scene ≠ .armed ∧ sceneMark s = s) := by
  unfold sceneMark
  split <;> simp_all

/-- The window-end step moves a fade one step, ends it, or leaves the state. -/
theorem sceneWindowEnd_cases (s : State) :
    sceneWindowEnd s = s ∨
    (s.scc.scene = .fadeOut ∧ s.scc.ramp ≤ 1 ∧ sceneWindowEnd s = reachZero s) ∨
    (s.scc.scene = .fadeOut ∧ 1 < s.scc.ramp ∧
      sceneWindowEnd s = { s with scc := { s.scc with ramp := s.scc.ramp - 1 } }) ∨
    (s.scc.scene = .fadeIn ∧ sceneWindowEnd s = reachFull s) ∨
    (s.scc.scene = .fadeIn ∧
      ∃ n, n ≤ s.scc.ramp + 1 ∧ sceneWindowEnd s = { s with scc := { s.scc with ramp := n } }) := by
  unfold sceneWindowEnd
  split
  · split
    · next h =>
      split
      · next hr => exact .inr (.inl ⟨h, hr, rfl⟩)
      · next hr => exact .inr (.inr (.inl ⟨h, by omega, rfl⟩))
    · next h =>
      have hn : (if s.scc.ramp < activeRamp s then s.scc.ramp + 1 else s.scc.ramp) ≤ s.scc.ramp + 1 := by
        split <;> omega
      by_cases he : (if s.scc.ramp < activeRamp s then s.scc.ramp + 1 else s.scc.ramp) = activeRamp s
      · exact .inr (.inr (.inr (.inl ⟨h, if_pos he⟩)))
      · exact .inr (.inr (.inr (.inr ⟨h, _, hn, if_neg he⟩)))
    · exact .inl rfl
    · exact .inl rfl
    · exact .inl rfl
  · exact .inl rfl

/-- A fade-out at ρ = 0 swaps or holds, by its target. -/
theorem reachZero_cases (s : State) :
    (s.scc.target = some .swapFadeIn ∧ reachZero s =
      { swap s with scc := { (swap s).scc with scene := .fadeIn, ramp := 0, target := none } }) ∨
    (s.scc.target = some .swapHold ∧ reachZero s =
      { swap s with scc := { (swap s).scc with scene := .held, ramp := 0, target := none } }) ∨
    ((s.scc.target = some .hold ∨ s.scc.target = none) ∧ reachZero s =
      { s with scc := { s.scc with scene := .held, ramp := 0, target := none } }) := by
  unfold reachZero
  split <;> simp_all

/-! ### The loader -/

/-- An expiry that is due closes the load; nothing happens otherwise. -/
theorem settleExpiry_cases (s : State) :
    (idleDue s.tld = true ∧ settleExpiry s = expireLoad s.rtx.number s) ∨
    (idleDue s.tld = false ∧ settleExpiry s = s) := by
  unfold settleExpiry
  cases h : idleDue s.tld <;> simp

/-! ### The ring and the window -/

/-- The window end runs where a window runs. -/
theorem endWindow_cases (s : State) :
    (s.inWindow = true ∧ endWindow s = settleSwap { endBlocks s with inWindow := false }) ∨
    (s.inWindow = false ∧ endWindow s = s) := by
  unfold endWindow
  cases h : s.inWindow <;> simp

theorem execWindowEnd_next (h : execWindowEnd s = .next t) :
    t = endWindow s ∧ (s.inWindow = true → rowsExist s = true) := by
  unfold execWindowEnd at h
  cases hi : s.inWindow <;> cases hr : rowsExist s <;> simp_all

/-- A row that is a window end where an event of it is due runs that window end, and changes nothing elsewhere. -/
theorem windowEndIf_next {due : Bool} (h : windowEndIf due s = .next t) :
    (s.inWindow = true ∧ due = true ∧ rowsExist s = true ∧ t = endWindow s) ∨
    ((s.inWindow && due) = false ∧ t = s) := by
  unfold windowEndIf at h
  cases hi : s.inWindow <;> cases due <;> cases hr : rowsExist s <;> simp_all

/-- An event of the ring opens a window, after the window that runs has ended, or opens none. -/
theorem ringOutcome_next {time : Nat} {j : Taken} (h : ringOutcome time j s = .next t) :
    (∃ o, j.opening = some o ∧ rowsExist s = true ∧ t = openWindow time j o (endWindow s)) ∨
    (j.opening = none ∧ t = takeEvent j (handBad s)) := by
  unfold ringOutcome at h
  split at h
  · cases h
  · next hc =>
    cases h
    unfold takeRingEvent
    cases ho : j.opening with
    | none => exact .inr ⟨rfl, rfl⟩
    | some o => exact .inl ⟨o, rfl, by simpa [ho] using hc, rfl⟩

/-- Which ring event a row is: a frame, an expiry at the time its timer holds, or, with the timer stopped, none. -/
theorem execWatchExpiry_next (h : execWatchExpiry s = .next t) :
    (∃ time, watchTime s.rrx = some time ∧ ringOutcome time s.rrx.takeMissing s = .next t) ∨
    (watchTime s.rrx = none ∧ t = s) := by
  unfold execWatchExpiry at h
  split at h
  · next time hw => exact .inl ⟨time, hw, h⟩
  · next hw =>
    cases h
    exact .inr ⟨hw, rfl⟩

theorem execLocalFrameTimerExpiry_next (h : execLocalFrameTimerExpiry s = .next t) :
    (∃ time, localTime s.rrx = some time ∧ ringOutcome time s.rrx.takeLocal s = .next t) ∨
    (localTime s.rrx = none ∧ t = s) := by
  unfold execLocalFrameTimerExpiry at h
  split at h
  · next time hw => exact .inl ⟨time, hw, h⟩
  · next hw =>
    cases h
    exact .inr ⟨hw, rfl⟩

/-- A step is the front command on the rest of the queue, or idles. -/
theorem step_cases (h : step s = .next t) :
    (∃ c rest, s.pending = c :: rest ∧ exec c { s with pending := rest } = .next t) ∨
    (s.pending = [] ∧ t = s) := by
  unfold step at h
  split at h
  · next hp =>
    cases h
    exact .inr ⟨hp, rfl⟩
  · next c rest hp => exact .inl ⟨c, rest, hp, h⟩

end Sys2Proof.Machine
end

