-- ==== Sys2Proof/Laws/Regs.lean ====
section
/-! SUPPORT. Reading a register file after each way of making one. -/

namespace Sys2Proof

variable {α β γ : Type} {n : Nat}

/-- Two files with the same registers are the same. -/
theorem Regs.ext_get {a b : Regs α n} (h : ∀ i, a.get i = b.get i) : a = b := by
  obtain ⟨la, ha⟩ := a
  obtain ⟨lb, hb⟩ := b
  have : la = lb := by
    apply List.ext_getElem (by rw [ha, hb])
    intro k h1 h2
    exact h ⟨k, by omega⟩
  subst this
  rfl

theorem Regs.get_eq_getElem (r : Regs α n) (i : Fin n) :
    r.get i = r.cells[i.val]'(by rw [r.size]; exact i.isLt) := rfl

@[simp] theorem Regs.get_put_same (r : Regs α n) (i : Fin n) (x : α) : (r.put i x).get i = x := by
  simp [Regs.get_eq_getElem, Regs.put]

theorem Regs.get_put_ne (r : Regs α n) {i j : Fin n} (x : α) (h : i ≠ j) : (r.put i x).get j = r.get j := by
  have : i.val ≠ j.val := fun e => h (Fin.ext e)
  simp [Regs.get_eq_getElem, Regs.put, List.getElem_set_of_ne this]

theorem Regs.get_put (r : Regs α n) (i j : Fin n) (x : α) :
    (r.put i x).get j = if i = j then x else r.get j := by
  split
  · next h => rw [h, Regs.get_put_same]
  · next h => exact Regs.get_put_ne r x h

@[simp] theorem Regs.get_fill (x : α) (i : Fin n) : (Regs.fill n x).get i = x := by
  simp [Regs.get_eq_getElem, Regs.fill]

@[simp] theorem Regs.get_tab (f : Fin n → α) (i : Fin n) : (Regs.tab f).get i = f i := by
  simp [Regs.get_eq_getElem, Regs.tab]

@[simp] theorem Regs.get_map (f : α → β) (r : Regs α n) (i : Fin n) : (r.map f).get i = f (r.get i) := by
  simp [Regs.get_eq_getElem, Regs.map]

@[simp] theorem Regs.get_zip (f : α → β → γ) (a : Regs α n) (b : Regs β n) (i : Fin n) :
    (Regs.zip f a b).get i = f (a.get i) (b.get i) := by
  simp [Regs.get_eq_getElem, Regs.zip]

theorem Regs.get_edit (r : Regs α n) (i j : Fin n) (f : α → α) :
    (r.edit i f).get j = if i = j then f (r.get j) else r.get j := by
  rw [Regs.edit, Regs.get_put]
  split
  · next h => rw [h]
  · rfl

/-- A register is one of the cells. -/
theorem Regs.get_mem (r : Regs α n) (i : Fin n) : r.get i ∈ r.cells := List.get_mem _ _

/-- What holds of every cell holds of every register, and the other way round. -/
theorem Regs.forall_cells {p : α → Prop} (r : Regs α n) : (∀ x ∈ r.cells, p x) ↔ ∀ i, p (r.get i) := by
  constructor
  · intro h i
    exact h _ (r.get_mem i)
  · intro h x hx
    obtain ⟨k, hk, rfl⟩ := List.getElem_of_mem hx
    exact h ⟨k, by rw [← r.size]; exact hk⟩

end Sys2Proof
end

