-- ==== Sys2Proof/Tests/Slice0.lean ====
section
/-! SUPPORT. Tests: the checks of WellFormed, the manual's worked examples and tables, one step of each command, and
for each statement with hypotheses a state and operands that meet them. -/

namespace Sys2Proof.Tests

open Sys2Proof.Machine

set_option Elab.async false

/-! ### Helpers -/

/-- The next state of an outcome, if it is one. -/
def nextOf : Host.Outcome State Fault Refusal → Option State
  | .next t => some t
  | .fault _ => none
  | .refused _ => none

/-- What a command leaves, seen through a view of the state. -/
def after {α : Type} (c : Instr) (s : State) (view : State → α) : Option α := (nextOf (exec c s)).map view

/-- The machine after reset, locked to a ring since tick 0. -/
def locked : State :=
  { State.reset with rrx := { State.reset.rrx with lock := .locked, watch := some 576, localTimer := none } }

/-- The locked machine with a scene. -/
def scene (c : SceneState) (ramp : Nat) (target : Option FadeTarget) : State :=
  { locked with scc := { locked.scc with scene := c, ramp := ramp, target := target, windowState := c } }

/-- The locked machine with an open load on the shadow bank. -/
def loading (table : BankTable) (direction : Direction) (next remaining : Nat) (held : List Word) : State :=
  { locked with tld :=
    { isOpen := true, bank := .b, table := table, next := next, remaining := remaining, direction := direction
      partialWords := held, timeout := 1, idle := some 5 } }

/-- A frame with a number, a mark, a kind and a payload, and every slot 0. -/
def blankFrame (number : BitVec 8) (mark : Bool) (kind : BitVec 4) (payload : Word) : Frame :=
  { sync := syncPattern, number := number, mark := mark, origin := false, slots := Regs.fill 128 0#24, kind := kind, payload := payload
    check := 0#16, cut := none }

/-- The same frame with the check that a separate computation gave. -/
def frame40 : Frame := { blankFrame 40 false 0 0 with check := 0x9870#16 }

/-- A frame cut short: bad whatever its bits are. -/
def cutFrame : Frame := { blankFrame 1 false 0 0 with cut := some 100 }

theorem seal_good (f : Frame) (h : f.cut = none) : frameGood (sealFrame f) = true := by
  simp only [frameGood, sealFrame, correctCheck, contentBits, h, Option.isNone_none, Bool.true_and, beq_self_eq_true]

theorem cut_bad (f : Frame) (n : Nat) (h : f.cut = some n) : frameGood f = false := by simp [frameGood, h]

/-! ### WellFormed -/

theorem test_wellFormed_accepts_a_cut_at_its_bound :
    (Instr.frameArrival 0 { cutFrame with cut := some 3125 }).wellFormed = true := by decide

theorem test_wellFormed_refuses_a_cut_past_the_end :
    (Instr.frameArrival 0 { cutFrame with cut := some 3126 }).wellFormed = false := by decide

theorem test_wellFormed_refuses_another_sync :
    (Instr.frameArrival 0 { cutFrame with sync := 0xD3A9#16 }).wellFormed = false := by decide

theorem test_wellFormed_refuses_too_many_arguments (via : Addressee) (c : Command) :
    (c.row via (List.replicate 63 0#24)).wellFormed = false ∧
      (c.row via (List.replicate 62 0#24)).wellFormed = true := by
  cases via <;> cases c <;> decide

/-! ### Scales and arithmetic -/

/-- R2's example, and the level example of chapter 10. -/
theorem test_levels : lev (2 ^ 44) = -25 ∧ lev (10 ^ 12) = -74 ∧ lev (2 ^ 46) = 0 := by decide +kernel

/-- The factors named in the worked cases. -/
theorem test_factors : ga 0 = 32768 ∧ ga 2 = 29205 ∧ ga 6 = 23198 ∧ ga 12 = 16423 ∧ ga 61 = 0 := by decide

/-- The conditioning examples of chapter 6. -/
theorem test_conditioning :
    (conditionSample ⟨some 40, 0, false⟩ 0 0x800000#24).toInt = -8388608 ∧
    (conditionSample ⟨some 40, 6, false⟩ 6 0x800000#24).toInt = -5938688 ∧
    (conditionSample ⟨some 40, 6, true⟩ 6 0x800000#24).toInt = 5938687 := by decide

/-- The finishing examples of chapter 6. -/
theorem test_finishing :
    (finishOutput (BitVec.ofInt 50 9133950000) 0).toInt = 278746 ∧
    (finishOutput (BitVec.ofInt 50 9133950000) 12).toInt = 139704 ∧
    (finishOutput (BitVec.ofInt 50 (-637149184)) 2).toInt = -17330 ∧
    (finishOutput (BitVec.ofInt 50 300000000000) 0).toInt = 8388607 ∧
    (finishOutput (BitVec.ofInt 50 300000000000) 2).toInt = 8159782 := by decide

/-- R25's examples, and the BUS2 finish of section 1.9. -/
theorem test_bus_finish :
    (finishBus (BitVec.ofInt 50 (-16384))).toInt = 0 ∧ (finishBus (BitVec.ofInt 50 (-16385))).toInt = -1 ∧
    (finishBus (BitVec.ofInt 50 1219568500)).toInt = 37218 := by decide

/-- The single tap of section 1.9, with either sign of gain. -/
theorem test_single_tap :
    interpolate 1000000 1200000 64 = 1050000 ∧ attenuate 24576 6 = 17398 ∧ attenuate (-24576) 6 = -17399 ∧
    (17398 * 512 / 1024 : Int) = 8699 ∧ (-17399 * 512 / 1024 : Int) = -8700 ∧ interpolate (-1000) 0 100 = -610 := by
  decide

/-- The offsets and delays of section 1.9. -/
theorem test_modulation :
    offset 1280 393216 = 640 ∧ offset 1280 393516 = 641 ∧ offset 1000 100000 = -619 ∧
    effectiveDelay ⟨3, 0, 15, 32, 1023, 0, 0⟩ 1024 2560 = 261632 ∧
    effectiveDelay ⟨3, 0, 15, 32, 0, 10, 0⟩ 1024 (-2560) = 0 ∧
    effectiveDelay ⟨26, 0, 15, 32, 0, 10, 0⟩ 1024 (-2560) = 256 := by decide

/-- The table of R49. -/
theorem test_mandatory_bound :
    Timing.default.mandatory = 224 ∧ { Timing.default with slow := true }.mandatory = 448 ∧
    (⟨600, 3, 7, 7, true, false, true, true, 15⟩ : Timing).acceptable = true ∧
    (⟨1100, 3, 7, 7, true, true, true, true, 15⟩ : Timing).acceptable = false ∧
    { Timing.default with factor := 0 }.acceptable = false := by decide

/-- The cost table of R53, with CG = 3 on. -/
theorem test_access_costs :
    let t := { Timing.default with rowGap := 3, rowGapOn := true }
    t.accessCost ⟨some 40, some .write⟩ .read 40 = 4 ∧ t.accessCost ⟨some 40, some .write⟩ .read 41 = 8 ∧
    t.accessCost ⟨some 40, some .read⟩ .read 40 = 2 ∧ t.accessCost ⟨some 40, some .read⟩ .read 41 = 8 ∧
    t.accessCost ⟨none, none⟩ .write 7 = 8 ∧ Timing.default.accessCost ⟨none, none⟩ .write 7 = 5 := by decide

/-- A word written at the second window without refresh, and refreshes served at the fifth and the seventh: by the ninth it has
been held for three in a row at most, and for seven where none was served. -/
theorem test_each_refresh_restarts_the_holding :
    longestHold 2 9 [7, 5] = 3 ∧ longestHold 2 9 [] = 7 ∧ (⟨9, [7, 5]⟩ : Lapse).refreshed.served = [9, 7, 5] := by decide

/-- A check computed apart from the model. -/
theorem test_frame_check : frameGood frame40 = true := by decide +kernel

/-- The stored words that R209 spells out. -/
theorem test_reset_words :
    State.reset.tables.timing = ⟨6311088#24, 15#24⟩ ∧ State.reset.tables.groups.get 7 = 33411#24 ∧
    State.reset.tables.ringset = 259#24 := by decide +kernel

/-! ### The machine -/

theorem test_step_takes_the_front :
    (nextOf (step { locked with pending := [.restart .addressed [], .windowEnd] })).map
      (fun t => (t.cmu.restartPending, t.pending)) = some (true, [.windowEnd]) := by decide +kernel

theorem test_core_is_this_machine : Sys2Proof.core.step = Machine.step ∧ Sys2Proof.core.reset = State.reset := ⟨rfl, rfl⟩

/-! ### Events -/

theorem test_powerOnReset_samples_the_straps :
    after (.powerOnReset 63 9) locked (fun t => (t.cmu.nodeAddress, t.rrx.lock, t.rrx.localTimer)) =
      some (none, .searching, some 521) := by decide +kernel

/-- Section 7.9: frame 40 at 700, 188 ticks after a window start, opens none. -/
theorem test_frameArrival_starts_acquiring :
    after (.frameArrival 700 frame40) { State.reset with rrx := { State.reset.rrx with lastStart := 512 } }
      (fun t => (t.rrx.lock, t.rrx.goodCount, t.inWindow, t.rrx.localTimer)) =
      some (.acquiring, 1, false, some 1264) := by decide +kernel

/-- Section 7.9: a good frame 540 ticks on moves P from 512 to 513; and a spurious frame is counted as bad and leaves no first
interval pending (R141). -/
theorem test_frameArrival_in_locked :
    after (.frameArrival 540 frame40) { locked with rrx := { locked.rrx with prevNumber := 39 } }
      (fun t => (t.rrx.period, t.rrx.watch, t.rrx.slips, t.rtx.number)) = some (513, some 1117, 0, 40) ∧
    after (.frameArrival 460 cutFrame) locked (fun t => (t.rrx.lock, t.rrx.badCount, t.rrx.firstPending, t.inWindow)) =
      some (.flywheel, 1, false, false) := by decide +kernel

/-- Section 7.9: the watch expiry at 4518. -/
theorem test_watchExpiry_flywheels :
    after .watchExpiry { locked with
        rrx := { locked.rrx with prevNumber := 46, watch := some 4518 }, rtx := { locked.rtx with number := 46 } }
      (fun t => (t.rrx.lock, t.rrx.badCount, t.rrx.prevNumber, t.rrx.missingFrames, t.rtx.number, t.rrx.lastStart)) =
      some (.flywheel, 1, 47, 1, 47, 4518) := by decide +kernel

/-- Section 7.9: the local timer at 512 originates frame number 0. -/
theorem test_localTimer_originates :
    after .localFrameTimerExpiry State.reset (fun t => (t.rtx.number, t.rrx.lock, t.rrx.localTimer, t.rtx.mode)) =
      some (0, .searching, some 1024, .originate) := by decide +kernel

theorem test_refreshTimer_counts :
    after .refreshTimerExpiry State.reset (fun t => (t.dmc.pendingRefresh, t.dmc.refreshDue)) =
      some (1, some 2940) := by decide +kernel

theorem test_refreshTimer_overruns :
    after .refreshTimerExpiry { State.reset with dmc := { State.reset.dmc with pendingRefresh := 7 } }
      (fun t => (t.dmc.pendingRefresh, t.dmc.refreshOverruns, t.cmu.fault)) =
      some (7, 1, some ⟨.refreshOverrun, 255, 0⟩) := by decide +kernel

/-- OUT5 of the four-tap window, at trim 1 dB: the sample enters the queue with its slot. BUS5 and BUS9 clip: two clips, and one
fault with detail 5 (section 1.9). -/
theorem test_windowEnd_finishes :
    after .windowEnd { locked with
        inWindow := true
        tpe := { locked.tpe with outs := locked.tpe.outs.put 5 (BitVec.ofInt 50 (-637149184)) }
        ios := { locked.ios with
          queue := [QueueEntry.blank], outputs := locked.ios.outputs.put 5 ⟨some 60, 2⟩
          outApplied := locked.ios.outApplied.put 5 2 } }
      (fun t => (t.inWindow, t.ios.queue.length, t.ios.queue.map fun e => ((e.get 5).slot, (e.get 5).sample.toInt))) =
      some (false, 2, [(none, 0), (some 60, -17330)]) ∧
    after .windowEnd { locked with
        inWindow := true
        tpe := { locked.tpe with
          buses := (locked.tpe.buses.put 5 (BitVec.ofInt 50 300000000000)).put 9 (BitVec.ofInt 50 300000000000) } }
      (fun t => (t.tpe.busClips, t.cmu.fault)) = some (2, some ⟨.busClip, 255, 5⟩) := by decide +kernel

theorem test_an_absent_row_faults :
    exec .windowEnd { locked with inWindow := true, lines := locked.lines.put 0 ⟨4096, 1, 0, 0⟩ } =
      .fault .absentRow := by
  have h : ((true && !rowsExist { locked with inWindow := true, lines := locked.lines.put 0 ⟨4096, 1, 0, 0⟩ }) = true) := by
    decide +kernel
  show execWindowEnd _ = _
  unfold execWindowEnd
  exact if_pos h

/-! ### Messages -/

/-- The record of the reading example in chapter 11. -/
theorem test_status_reading_example :
    after (.status .addressed [0#24]) { locked with
        rrx := { locked.rrx with period := 511 }
        cmu := { locked.cmu with fault := some ⟨.busClip, 0x26, 3⟩, laterCount := 3 }
        sgd := { locked.sgd with groups := locked.sgd.groups.put 0 { locked.sgd.groups.get 0 with applied := 6 } } }
      (fun t => (t.cmu.replyBuffer.length, [1, 2, 17, 19].map fun k => (t.cmu.replyBuffer.getD k ⟨0, 0⟩).payload)) =
      some (46, [0x07FC0E#24, 0x000000#24, 0xB03263#24, 0x000006#24]) := by decide +kernel

theorem test_status_clears :
    after (.status .addressed [1#24]) { locked with rrx := { locked.rrx with badFrames := 9 } }
      (fun t => (t.rrx.badFrames, (t.cmu.replyBuffer.getD 7 ⟨0, 0⟩).payload)) = some (0, 9#24) := by decide +kernel

theorem test_read_timing :
    after (.read .addressed [0x800000#24, 1#24]) locked (fun t => t.cmu.replyBuffer.map Cell.payload) =
      some [0x001002#24, 0x604CB0#24, 0x00000F#24, 0x000002#24] := by decide +kernel

/-- R49's fifth row: RANGE with data word 0. -/
theorem test_write_refuses_a_bad_entry :
    after (.write .addressed [0x800000#24, 0x7FFC4C#24, 15#24]) locked
      (fun t => (t.cmu.replyBuffer.map Cell.payload, t.tables.timing)) =
      some ([0x00D003#24, 0#24, 1#24], locked.tables.timing) := by decide +kernel

theorem test_write_stores :
    after (.write .addressed [0x500002#24, 0x005010#24]) locked
      (fun t => (t.cmu.replyBuffer.map Cell.payload, t.tables.lines.get 2)) =
      some ([0x001003#24, 0#24], 0x005010#24) := by decide +kernel

theorem test_loadOpen_opens :
    after (.loadOpen .addressed [0x180005#24, 0x002003#24]) locked
      (fun t => (t.tld.isOpen, t.tld.table, t.tld.next, t.tld.remaining, t.tld.direction)) =
      some (true, .taps, 5, 2, .ascending) := by decide +kernel

theorem test_loadOpen_refuses_active :
    after (.loadOpen .addressed [0x100005#24, 0x002003#24]) locked
      (fun t => (t.tld.isOpen, t.cmu.replyBuffer.map Cell.payload)) = some (false, [0x009010#24, 0#24]) := by
  decide +kernel

theorem test_loadData_completes :
    after (.loadData .addressed [1#24, 2#24, 3#24, 4#24]) (loading .mods .ascending 31 0 [])
      (fun t => (t.tld.isOpen, t.tables.bankB.mods.get 31, t.cmu.replyBuffer.map Cell.payload)) =
      some (false, ⟨1, 2, 3⟩, [0x001011#24, 0x010003#24, 1#24]) := by decide +kernel

theorem test_loadData_fills :
    after (.loadData .addressed [2#24, 3#24]) (loading .mods .fill 4 2 [1#24])
      (fun t => (t.tld.isOpen, [3, 4, 6, 7].map fun i => t.tables.bankB.mods.get i)) =
      some (false, [⟨0, 0, 0⟩, ⟨1, 2, 3⟩, ⟨1, 2, 3⟩, ⟨0, 0, 0⟩]) := by decide +kernel

theorem test_loadClose_reports :
    after (.loadClose .addressed []) (loading .taps .ascending 9 7 [1#24, 2#24])
      (fun t => (t.tld.isOpen, t.cmu.replyBuffer.map Cell.payload)) =
      some (false, [0x001012#24, 0x0101C2#24, 1#24]) := by decide +kernel

theorem test_commit_fades_out :
    after (.commit .addressed [0#24]) (scene .steady 1 none)
      (fun t => (t.scc.scene, t.scc.target, t.scc.shadowLocked)) = some (.fadeOut, some .swapFadeIn, true) := by
  decide +kernel

theorem test_commit_in_held_swaps_between_windows :
    after (.commit .broadcast [1#24]) locked (fun t => (t.scc.scene, t.scc.active, t.scc.swaps, t.scc.shadowLocked)) =
      some (.held, .b, 1, false) := by decide +kernel

theorem test_cancel_turns_back :
    after (.cancel .addressed []) (scene .fadeOut 5 (some .swapFadeIn)) (fun t => (t.scc.scene, t.scc.ramp)) =
      some (.fadeIn, 5) := by decide +kernel

theorem test_hush_keeps_the_swap :
    after (.hush .addressed []) (scene .fadeOut 5 (some .swapFadeIn)) (fun t => t.scc.target) =
      some (some .swapHold) := by decide +kernel

theorem test_resume_fades_in :
    after (.resume .addressed []) locked (fun t => (t.scc.scene, t.scc.ramp)) = some (.fadeIn, 0) := by decide +kernel

theorem test_guardClear_joins :
    after (.guardClear .addressed [0x000011#24, 0xFFFF02#24])
      { locked with sgd := { locked.sgd with clearDetectors := 4, clearGroups := 1 } }
      (fun t => (t.sgd.clearDetectors, t.sgd.clearGroups)) = some (0x15, 3) := by decide +kernel

theorem test_surveyStart_waits :
    after (.surveyStart .broadcast [0x000A00#24, 0x010034#24]) locked (fun t => (t.svu.state, t.svu.startPending)) =
      some (.waiting, some ⟨.levelSingle, 52, 1, 10, .now⟩) := by decide +kernel

theorem test_surveyStop_is_not_broadcast :
    after (.surveyStop .broadcast []) { locked with svu := { locked.svu with state := .waiting } }
      (fun t => t.svu.state) = some .waiting := by decide +kernel

theorem test_surveyStop_stops :
    after (.surveyStop .addressed []) { locked with svu := { locked.svu with state := .waiting } }
      (fun t => t.svu.state) = some .idle := by decide +kernel

theorem test_faultClear_reports :
    after (.faultClear .addressed [])
      { locked with cmu := { locked.cmu with fault := some ⟨.busClip, 0x26, 3⟩, laterCount := 3 } }
      (fun t => (t.cmu.fault, t.cmu.laterCount, t.cmu.replyBuffer.map Cell.payload)) =
      some (none, 0, [0x001050#24, 0xB03263#24, 1#24]) := by decide +kernel

theorem test_restart_is_pending :
    after (.restart .broadcast []) locked (fun t => t.cmu.restartPending) = some true := by decide +kernel

/-! ### Events inside a window end or a window start -/

theorem test_loadTimeout_closes :
    after .loadTimeout (loading .taps .ascending 9 7 [1#24]) (fun t => (t.tld.isOpen, t.tld.remaining, t.cmu.fault)) =
      some (false, 0, some ⟨.loadTimeout, 255, 1⟩) := by decide +kernel

/-- A detector that is enabled, with an action and a trip count. -/
def watching (action : Action) (trips : Nat) : State :=
  let e := { DetectorEntry.zero with enable := true, group := 2, action := action, forgiveness := 1, limit := 2 }
  let d := { Detector.initial with entry := e, trips := trips }
  { locked with sgd := { locked.sgd with detectors := locked.sgd.detectors.put 3 d } }

theorem test_forgiveness_takes_a_trip_back :
    after (.forgivenessExpiry 3) (watching .note 1) (fun t => (t.sgd.detectors.get 3).trips) = some 0 := by
  decide +kernel

theorem test_recovery_lowers_the_target :
    after (.recoveryExpiry 2)
      { locked with sgd := { locked.sgd with groups := locked.sgd.groups.put 2 ⟨⟨3, 40, 32⟩, 7, 7, 8191⟩ } }
      (fun t => t.sgd.groups.get 2) = some ⟨⟨3, 40, 32⟩, 6, 7, 0⟩ := by decide +kernel

theorem test_trip_overflow_reduces :
    after (.trip 3) (watching .reduce 3)
      (fun t => ((t.sgd.detectors.get 3).flag, (t.sgd.detectors.get 3).trips, (t.sgd.groups.get 2).target)) =
      some (true, 0, 3) := by decide +kernel

theorem test_trip_overflow_cuts :
    after (.trip 3) (watching .cut 3)
      (fun t => ((t.sgd.groups.get 2).target, t.cmu.fault)) =
      some (61, some ⟨.guardCut, 255, 2⟩) := by decide +kernel

/-- A window that runs in a fade, with a tail policy of the other bank, an initial phase there, and a bus line in use. -/
def fading (tail : Word) (c : SceneState) (ramp : Nat) (target : Option FadeTarget) : State :=
  let s := scene c ramp target
  let b := s.tables.bankB
  { s with
    inWindow := true
    ios := { s.ios with queue := [QueueEntry.blank] }
    tables := { s.tables with bankB := { b with header := ⟨0, 0, tail⟩, mods := b.mods.put 3 ⟨0, 7, 0x054321⟩ } }
    lines := s.lines.put 39 ⟨1, 2, 5, 5⟩ }

/-- The fade-out's end is its window end: the phases start afresh, and under KEEP the bus line is written (R9, R62, R75). -/
theorem test_fadeTargetAction_swaps :
    after .fadeTargetAction (fading 0 .fadeOut 1 (some .swapFadeIn))
      (fun t => (t.scc.scene, t.scc.active, t.scc.ramp, t.tpe.phases.get 3, t.lines.get 39, t.inWindow)) =
      some (.fadeIn, .b, 0, 0x54321, ⟨1, 2, 6, 6⟩, false) := by decide +kernel

/-- Nowhere but at a fade's end does the row act (R74). -/
theorem test_fadeTargetAction_waits :
    after .fadeTargetAction (fading 0 .fadeOut 2 (some .swapFadeIn)) (fun t => (t.scc.scene, t.scc.active, t.inWindow)) =
      some (.fadeOut, .a, true) := by decide +kernel

theorem test_fadeInComplete_is_steady :
    after .fadeInComplete (fading 0 .fadeIn 15 none) (fun t => (t.scc.scene, t.scc.ramp, t.inWindow)) =
      some (.steady, 16, false) := by decide +kernel

/-- The locked machine with a survey that measures. -/
def surveying (c : SurveyConfig) : State :=
  { locked with svu := { locked.svu with state := .measuring, config := some c, reference := some (-100) } }

/-- The level example of chapter 10, with the words of chapter 11. -/
theorem test_levelFinish_writes :
    let s := surveying ⟨.levelSingle, 52, 1, 10, .now⟩
    after .levelFinish { s with svu := { s.svu with sum := 1024 * 10 ^ 12, peak := 1000000, sequence := 16 } }
      (fun t => (t.tables.results.get 0, t.svu.state)) =
      some (⟨0x7B6011#24, 0x340000#24, 0x0F4240#24⟩, .idle) := by decide +kernel

/-- Kind 2, reference −100 in ten bits, t20 = 293 and t30 absent. -/
theorem test_decayFinish_writes :
    let s := surveying ⟨.decay, 3, 1, 10, .mark⟩
    after .decayFinish { s with svu := { s.svu with t20 := some 293, sequence := 255 } }
      (fun t => (t.tables.results.get 0, t.svu.state)) =
      some (⟨0xB9C000#24, 0x030125#24, 0x00FFFF#24⟩, .waiting) := by decide +kernel

/-! ### Witnesses: what the statements assume can be met -/

theorem ready_of (via : Addressee) (s : State) (h : (cellsReach s.rrx.lock && s.cmu.assembly == none &&
    s.cmu.nodeAddress.isSome && s.cmu.unit != .replying) = true) : Ready via s := by
  simp only [Bool.and_eq_true, beq_iff_eq, bne_iff_ne, ne_eq] at h
  exact ⟨h.1.1.1, h.1.1.2, fun _ => ⟨h.1.2, h.2⟩⟩

theorem ready_locked (via : Addressee) : Ready via locked := ready_of via locked (by decide)

/-- The locked machine in a window. -/
def running : State :=
  { locked with inWindow := true, ios := { locked.ios with queue := [QueueEntry.blank] } }

/-- The locked machine with an input line of one row and a bus line of two, stored and in force. -/
def lined : State :=
  { running with
    tables := { running.tables with lines := (running.tables.lines.put 0 0x001000#24).put 39 0x002001#24 }
    lines := (running.lines.put 0 ⟨0, 1, 1023, 1024⟩).put 39 ⟨1, 2, 0, 0⟩ }

/-- A frame that is good. -/
def goodFrame (number : BitVec 8) (mark : Bool) : Frame := sealFrame (blankFrame number mark 0 0)

theorem goodFrame_good (number : BitVec 8) (mark : Bool) : frameGood (goodFrame number mark) = true :=
  seal_good _ rfl

theorem cutFrame_bad : frameGood cutFrame = false := cut_bad _ 100 rfl

/-- The receiver of the locked machine in another lock state, with a bad count. -/
def inLock (lock : LockState) (badCount : Nat) : State :=
  { locked with rrx := { locked.rrx with lock := lock, badCount := badCount } }

theorem witness_StepRunsTheFrontCommand :
    { locked with pending := [.windowEnd] }.pending = .windowEnd :: [] ∧ locked.pending = [] := ⟨rfl, rfl⟩

theorem witness_EveryCommandCompletes :
    rowsExist locked = true ∧ rowsExist { locked with lines := locked.lines.put 0 ⟨4096, 1, 0, 0⟩ } = false ∧
    rowsExist { locked with lines := locked.lines.put 0 ⟨4095, 1, 0, 0⟩ } = true := by decide +kernel

theorem witness_MessagesMeetTheUnitState :
    let held := { locked with cmu := { locked.cmu with unit := .replying, replyBuffer := [⟨5, 0⟩] } }
    let partly := { locked with cmu := { locked.cmu with unit := .assembling, assembly := some .broadcast } }
    let aside := { locked with cmu := { locked.cmu with nodeAddress := none } }
    cellsReach State.reset.rrx.lock = false ∧ aside.cmu.nodeAddress = none ∧
    (cellsReach held.rrx.lock = true ∧ held.cmu.nodeAddress.isSome = true ∧ held.cmu.unit = .replying ∧
      held.cmu.assembly = none) ∧
    (cellsReach partly.rrx.lock = true ∧ partly.cmu.assembly.isSome = true ∧
      partly.cmu.nodeAddress.isSome = true) := by decide

theorem witness_WrongMessagesHaveNoEffect :
    Ready .addressed locked ∧ Ready .broadcast locked ∧ (List.replicate 62 0#24).length ≤ 62 ∧
    Command.commit.accepts (List.replicate 62 0#24) = false ∧ Command.commit.accepts [] = false ∧
    Command.commit.mayBroadcast = true ∧ Command.status.mayBroadcast = false :=
  ⟨ready_locked _, ready_locked _, by decide, by decide, by decide, rfl, rfl⟩

/-- R162: a WRITE of whole two-word entries, of half of one, and of 61 words of a one-word table; and past 62 arguments. -/
theorem test_write_counts :
    Command.write.accepts [0x600000#24, 0, 0] = true ∧ Command.write.accepts [0x600000#24, 0] = false ∧
    Command.write.accepts (0x300000#24 :: List.replicate 61 0) = true ∧
    Command.write.accepts (0x300000#24 :: List.replicate 62 0) = false := by decide

theorem witness_StatusAndFaultClearReport :
    Ready .addressed locked ∧ field 0xFFFFFC#24 1 0 = 0 ∧ field 0xFFFFFD#24 1 0 = 1 ∧ 2 ≤ field 0x000002#24 1 0 ∧
    2 ≤ field 0xFFFFFF#24 1 0 := ⟨ready_locked _, by decide, by decide, by decide, by decide⟩

theorem witness_StatusRecordLayout :
    let s := { locked with
      rrx := { locked.rrx with period := 563, badFrames := 65535 }
      scc := { locked.scc with ramp := 16384, swaps := 65535 }
      cmu := { locked.cmu with fault := some ⟨.loadTimeout, 255, 2⟩, laterCount := 255 } }
    s.rrx.period < 1024 ∧ s.scc.ramp < 32768 ∧ s.scc.swaps < 65536 ∧ s.tld.remaining < 1024 ∧ s.dmc.shedLast < 2048 ∧
    s.dmc.shedWorst < 2048 ∧ s.rrx.badFrames < 65536 ∧ s.cmu.fault = some ⟨.loadTimeout, 255, 2⟩ ∧
    s.cmu.laterCount < 256 ∧ locked.cmu.fault = none ∧ (∀ g, (s.sgd.groups.get g).applied < 64) ∧
    (∀ i, (s.sgd.detectors.get i).total < 65536) := by decide +kernel

theorem witness_ReadReturnsStoredWords :
    Ready .addressed locked ∧ tableEntries (argTable 0xB00000#24) = none ∧
    tableEntries (argTable 0x1803EC#24) = some 1024 ∧
    (argStart 0x1803EC#24 = 1004 ∧ argCount 20#24 = 20 ∧ tableWidth (argTable 0x1803EC#24) = 3) ∧
    argCount 0#24 = 0 ∧ 1024 < argCount 1025#24 ∧ 1024 < argStart 0x1803EC#24 + argCount 21#24 ∧
    62 < argCount 21#24 * tableWidth (argTable 0x180000#24) :=
  ⟨ready_locked _, by decide, by decide, by decide, by decide, by decide, by decide, by decide⟩

theorem witness_WriteStoresOrRefuses :
    let line : Word := 0x001000#24
    Ready .addressed locked ∧ Ready .addressed (scene .armed 1 none) ∧ Ready .addressed (loading .taps .fill 0 0 []) ∧
    (writeCountFits [0xA00000#24, 0, 0, 0] = true ∧ 10 ≤ argTable 0xA00000#24) ∧
    (writeCountFits [0x200000#24, 0, 0, 0] = true ∧ argTable 0x200000#24 = 2 ∧ argShadow 0x200000#24 = false) ∧
    (writeCountFits [0x280000#24, 0, 0, 0] = true ∧ argTable 0x280000#24 = 2 ∧ argShadow 0x280000#24 = true) ∧
    (loading .taps .fill 0 0 []).tld.isOpen = true ∧
    (locked.scc.shadowLocked = false ∧ locked.tld.isOpen = false) ∧
    (writeCountFits [0x500027#24, line] = true ∧ argTable 0x500027#24 = 5 ∧ argStart 0x500027#24 = 39 ∧
      entriesOf (tableWidth 5) [line] = [[line]] ∧
      badEntry (locked.tables.storeRun .b 5 39 [[line]]) 39 1 5 39 = false) ∧
    argStart 0x500028#24 = 40 ∧
    (entriesOf (tableWidth 5) [line, line] = [[line], [line]] ∧
      badEntry (locked.tables.storeRun .b 5 0 [[line], [line]]) 0 2 5 0 = false ∧
      badEntry (locked.tables.storeRun .b 5 0 [[line], [line]]) 0 2 5 1 = true) :=
  ⟨ready_locked _, ready_of _ _ (by decide), ready_of _ _ (by decide), by decide +kernel⟩

/-- R117: trim 61 is good and 62 is bad; R33: regions that meet at a boundary are good, and the higher of two that overlap is
bad. -/
theorem test_owners_tests :
    let s := fun w : Word => { locked.tables with inputs := locked.tables.inputs.put 3 w }
    let l := fun w : Word => { locked.tables with lines := (locked.tables.lines.put 4 0x002000#24).put 5 w }
    badEntry (s 0x003D00#24) 3 1 3 3 = false ∧ badEntry (s 0x003E00#24) 3 1 3 3 = true ∧
    badEntry (l 0x001002#24) 4 2 5 5 = false ∧ badEntry (l 0x001001#24) 4 2 5 5 = true ∧
    badEntry (l 0x001001#24) 4 2 5 4 = false := by decide +kernel

theorem witness_StoredRunReadsBack :
    tableEntries 5 = some 40 ∧ 38 + [[1#24], [2#24]].length ≤ 40 ∧
    (∀ e ∈ [[1#24], [2#24]], e.length = tableWidth 5) ∧ tableEntries 0 = some 1 ∧ tableEntries 6 = some 24 := by decide

theorem witness_LoadOpenOpensTheShadowBank :
    Ready .addressed locked ∧ Ready .addressed (loading .taps .fill 0 0 []) ∧
    locked.tld.isOpen = false ∧ locked.scc.shadowLocked = false ∧ argShadow 0x1803FF#24 = true ∧
    argShadow 0x1003FF#24 = false ∧ 3 ≤ argTable 0x380000#24 ∧ argDirection 0x001800#24 = none ∧
    argTimeout 0x000001#24 = 0 ∧ 1024 < argCount 0x002401#24 ∧
    bankTableOf (argTable 0x1803FF#24) = some .taps ∧
    (argDirection 0x002001#24 = some .ascending ∧ argTimeout 0x002001#24 = 1 ∧ argCount 0x002001#24 = 1 ∧
      argStart 0x1803FF#24 + argCount 0x002001#24 = BankTable.taps.entries) ∧
    BankTable.taps.entries < argStart 0x1803FF#24 + argCount 0x002002#24 ∧
    (argDirection 0x002C00#24 = some .descending ∧ argCount 0x002C00#24 = argStart 0x1803FF#24 + 1) ∧
    (argDirection 0x002801#24 = some .descending ∧ BankTable.mods.entries ≤ argStart 0x280020#24 ∧
      bankTableOf (argTable 0x280020#24) = some .mods) :=
  ⟨ready_locked _, ready_of _ _ (by decide), by decide +kernel⟩

theorem loading_inv : LoaderInv (loading .mods .ascending 31 0 [1#24, 2#24]) :=
  ⟨by decide, fun _ => ⟨by decide, by decide, by decide, by decide, 5, rfl, by decide⟩⟩

theorem locked_loader_inv : LoaderInv locked := ⟨by decide, by decide⟩

theorem witness_LoadDataTakesAndWritesWords_of_any_run :
    (Ready .addressed locked ∧ LoaderInv locked ∧ locked.tld.isOpen = false) ∧
    (Ready .addressed (loading .mods .ascending 31 0 [1#24, 2#24]) ∧
      LoaderInv (loading .mods .ascending 31 0 [1#24, 2#24]) ∧
      (loading .mods .ascending 31 0 [1#24, 2#24]).tld.isOpen = true) ∧
    1 ≤ [0#24].length ∧ (List.replicate 62 0#24).length ≤ 62 :=
  ⟨⟨ready_locked _, locked_loader_inv, rfl⟩, ⟨ready_of _ _ (by decide), loading_inv, rfl⟩, by decide, by decide⟩

theorem witness_LoadDataTakesAndWritesWords_of_three :
    Ready .addressed (loading .taps .ascending 1023 0 []) ∧ Ready .addressed (loading .taps .descending 5 5 []) ∧
    Ready .addressed (loading .taps .fill 0 1023 []) ∧ (loading .taps .fill 0 1023 []).tld.partialWords = [] ∧
    (loading .taps .ascending 1023 0 []).tld.remaining = 0 ∧ 1 ≤ (loading .taps .descending 5 5 []).tld.remaining ∧
    tableEntries (loading .taps .fill 0 1023 []).tld.table.id = some 1024 :=
  ⟨ready_of _ _ (by decide), ready_of _ _ (by decide), ready_of _ _ (by decide), rfl, rfl, by decide, rfl⟩

/-- An entry completed by one word after two kept, two words that wait, and 62 words split in two (the split ends the load, or
leaves it OPEN). -/
theorem witness_LoadDataTakesAndWritesWords_of_splits :
    let s := loading .mods .ascending 30 1 [1#24, 2#24]
    (Ready .addressed s ∧ s.tld.isOpen = true ∧ 1 ≤ [3#24].length ∧
      s.tld.partialWords ++ [3#24] = [1#24, 2#24, 3#24] ∧ 1 ≤ s.tld.remaining) ∧
    (let empty := loading .taps .fill 0 1023 []
     Ready .addressed empty ∧ empty.tld.isOpen = true ∧ (empty.tld.partialWords ++ [3#24, 4#24]).length ≤ 2) ∧
    ((List.replicate 61 0#24).length + [5#24].length ≤ 62 ∧
      after (.loadData .addressed (List.replicate 61 0#24)) s (fun t => t.tld.isOpen) = some false ∧
      after (.loadData .addressed [5#24]) s (fun t => t.tld.isOpen) = some true) :=
  ⟨⟨ready_of _ _ (by decide), rfl, by decide, rfl, by decide⟩, ⟨ready_of _ _ (by decide), rfl, by decide⟩,
    by decide +kernel⟩

theorem witness_LoadCloseClosesTheLoader :
    (Ready .addressed locked ∧ LoaderInv locked ∧ locked.tld.remaining < 1024) ∧
    (Ready .addressed (loading .mods .ascending 31 0 [1#24, 2#24]) ∧
      LoaderInv (loading .mods .ascending 31 0 [1#24, 2#24]) ∧
      (loading .mods .ascending 31 0 [1#24, 2#24]).tld.remaining < 1024) :=
  ⟨⟨ready_locked _, locked_loader_inv, by decide⟩, ⟨ready_of _ _ (by decide), loading_inv, by decide⟩⟩

theorem witness_CommitStartsAScene (via : Addressee) :
    Ready via locked ∧ Ready via running ∧ Ready via (loading .taps .fill 0 0 []) ∧
    Ready via (scene .steady 1 none) ∧ Ready via (scene .armed 1 none) ∧ Ready via (scene .fadeIn 0 none) ∧
    (locked.tld.isOpen = false ∧ locked.scc.swapDue = false ∧ locked.scc.scene = .held ∧ locked.inWindow = false) ∧
    (running.scc.swapDue = false ∧ running.scc.scene = .held ∧ running.inWindow = true) ∧
    ((scene .steady 1 none).tld.isOpen = false ∧ (scene .steady 1 none).scc.swapDue = false ∧
      (scene .steady 1 none).scc.scene = .steady) ∧
    field 0#24 1 0 = 0 ∧ field 1#24 1 0 = 1 ∧ 2 ≤ field 2#24 1 0 :=
  ⟨ready_locked _, ready_of _ _ (by decide), ready_of _ _ (by decide), ready_of _ _ (by decide),
    ready_of _ _ (by decide), ready_of _ _ (by decide), by decide +kernel⟩

theorem witness_SwapExchangesTheBanks :
    let s := surveying ⟨.decay, 0, 1, 10, .swap⟩
    s.svu.state ≠ .idle ∧ s.svu.startPending = none ∧ s.svu.config = some ⟨.decay, 0, 1, 10, .swap⟩ ∧
    locked.svu.state = .idle := by decide

theorem witness_SceneCommandsFollowTheirTables (via : Addressee) (c : SceneState) (t : Option FadeTarget) :
    Ready via (scene c 1 t) ∧ (scene c 1 t).scc.scene = c ∧ (scene c 1 t).scc.target = t :=
  ⟨⟨rfl, rfl, fun _ => ⟨rfl, UnitState.noConfusion⟩⟩, rfl, rfl⟩

theorem witness_RequestsWaitForTheWindowStart (via : Addressee) : Ready via locked := ready_locked via

theorem witness_SurveyCommandsSetTheSurvey :
    Ready .addressed locked ∧ Ready .broadcast locked ∧
    surveyConfigOf [0x001204#24, 0x010057#24] = none ∧
    surveyConfigOf [0x001214#24, 0x010057#24] = some ⟨.decay, 87, 1, 18, .mark⟩ ∧
    surveyConfigOf [0x000602#24, 0x100048#24] = some ⟨.levelSweep, 72, 16, 6, .now⟩ ∧
    surveyConfigOf [0x000602#24, 0x100049#24] = none :=
  ⟨ready_locked _, ready_locked _, by decide, by decide, by decide, by decide⟩

theorem witness_GoodFrameIsFollowed :
    rowsExist locked = true ∧ locked.rrx.lock = .locked ∧ frameGood (goodFrame 1 false) = true ∧
    locked.rrx.lastStart + 461 ≤ 461 ∧ locked.rrx.firstPending = false ∧ 563 ≤ locked.rrx.lastStart + 563 ∧
    rowsExist (inLock .flywheel 1) = true ∧ (inLock .flywheel 1).rrx.lock = .flywheel ∧
    (goodFrame 1 false).kind = 0 ∧ frameGood (sealFrame (blankFrame 1 false 3 0)) = true :=
  ⟨by decide +kernel, rfl, goodFrame_good _ _, by decide, rfl, by decide, by decide +kernel, rfl, rfl, seal_good _ rfl⟩

theorem witness_MarkStartsTheArmedScene :
    let s := scene .armed 1 none
    rowsExist s = true ∧ s.rrx.lock = .locked ∧ frameGood (goodFrame 1 true) = true ∧ s.rrx.lastStart + 461 ≤ 461 ∧
    (goodFrame 1 true).kind ≠ 3 ∧ s.cmu.restartPending = false ∧ s.scc.swapDue = false ∧ s.scc.scene = .armed ∧
    (goodFrame 1 true).mark = true ∧ frameGood (goodFrame 1 false) = true ∧ (goodFrame 1 false).mark = false :=
  ⟨by decide +kernel, rfl, goodFrame_good _ _, by decide, by decide, rfl, rfl, rfl, rfl, goodFrame_good _ _, rfl⟩

/-- A machine whose Command Unit assembles, with words held. -/
def assembling (via : Addressee) (words : List Word) : State :=
  { locked with cmu := { locked.cmu with
    unit := if via = .addressed then .assembling else .idle, assembly := some via, words := words } }

/-- WORD appends up to 63 words, END completes a STATUS, and code 0x00 is answered UNKNOWN (R157, R159, R161, R207). -/
theorem test_cells :
    (takeCell 2 7 (assembling .addressed [])).cmu.words = [7] ∧
    (takeCell 2 7 (assembling .addressed (List.replicate 63 0))).cmu.overflow = true ∧
    (takeCell 3 0 (assembling .addressed [0x010001#24, 0])).cmu.replyBuffer.length = 46 ∧
    (takeCell 3 0 (assembling .addressed [0x000000#24])).cmu.replyBuffer = [⟨4, 0x015000#24⟩, ⟨5, 0⟩] := by decide +kernel

theorem witness_CellsAssembleTheMessage :
    let s := { inLock .acquiring 0 with rrx := { (inLock .acquiring 0).rrx with goodCount := 15 } }
    (rowsExist locked = true ∧ locked.rrx.lock = .locked ∧ frameGood (goodFrame 1 false) = true ∧
      locked.rrx.lastStart + 461 ≤ 461 ∧ idleReaches locked.tld = false ∧ (locked.tld.isOpen = true → 1 ≤ locked.tld.timeout)) ∧
    (rowsExist s = true ∧ s.rrx.lock = .acquiring ∧ (goodFrame 1 false).number = s.rrx.prevNumber + 1 ∧
      s.rrx.ringset.acquire ≤ min (s.rrx.goodCount + 1) 255) ∧
    (field 63#24 5 0 = 63 ∧ locked.cmu.nodeAddress = some 0 ∧ field 0#24 5 0 = (0 : Fin 63).val ∧
      locked.cmu.unit ≠ .replying ∧ locked.cmu.nodeAddress.map Fin.val ≠ some (field 62#24 5 0)) ∧
    (locked.cmu.assembly = none ∧ (assembling .addressed []).cmu.assembly = some .addressed ∧
      (assembling .broadcast []).cmu.damaged = false ∧ (assembling .broadcast []).cmu.words = []) ∧
    (63 ≤ (assembling .broadcast (List.replicate 63 0)).cmu.words.length ∧
      (assembling .broadcast (List.replicate 62 0)).cmu.words.length < 63) ∧
    (field 0x5A0000#24 5 0 = [].length (α := Word) ∧ Command.restart.code = field 0x5A0000#24 23 16 ∧
      field 0x5B0000#24 23 16 = 0x5B) ∧
    Ready .addressed { assembling .addressed [0x5A0000#24] with
      cmu := { (assembling .addressed [0x5A0000#24]).cmu with assembly := none } } ∧
    (let m := assembling .addressed (0x11003E#24 :: List.replicate 62 0#24)
     m.cmu.assembly = some .addressed ∧ m.cmu.damaged = false ∧ m.cmu.overflow = false ∧
     Command.loadData.code = field 0x11003E#24 23 16 ∧ field 0x11003E#24 5 0 = (List.replicate 62 0#24).length ∧
     (List.replicate 62 0#24).length ≤ 62 ∧
     Ready .addressed { m with cmu := { m.cmu with assembly := none } }) :=
  ⟨⟨by decide +kernel, rfl, goodFrame_good _ _, by decide, rfl, by decide⟩, ⟨by decide +kernel, rfl, rfl, by decide⟩,
    by decide, by decide, by decide, by decide, ready_of _ _ (by decide),
    ⟨rfl, rfl, rfl, by decide, by decide, by decide, ready_of _ _ (by decide)⟩⟩

theorem witness_BadFrameIsPoisoned :
    rowsExist locked = true ∧ frameGood cutFrame = false ∧ locked.rrx.lastStart + 461 ≤ 461 ∧
    (locked.rrx.lock = .locked ∧ 2 ≤ locked.rrx.ringset.tolerance) ∧
    rowsExist (inLock .flywheel 1) = true ∧ (inLock .flywheel 1).rrx.lock = .flywheel ∧
    (inLock .flywheel 1).rrx.badCount + 1 < (inLock .flywheel 1).rrx.ringset.tolerance :=
  ⟨by decide +kernel, cutFrame_bad, by decide, by decide, by decide +kernel, rfl, by decide⟩

theorem witness_SpuriousFrameOpensNoWindow :
    let t := { locked with rrx := { locked.rrx with ringset := ⟨1, 16⟩ } }
    460 < locked.rrx.lastStart + 461 ∧ locked.rrx.lock = .locked ∧ 2 ≤ locked.rrx.ringset.tolerance ∧
    (inLock .flywheel 1).rrx.lock = .flywheel ∧
    (inLock .flywheel 1).rrx.badCount + 1 < (inLock .flywheel 1).rrx.ringset.tolerance ∧
    (t.rrx.lock = .locked ∧ t.rrx.ringset.tolerance ≤ 1) ∧
    (inLock .flywheel 2).rrx.ringset.tolerance ≤ (inLock .flywheel 2).rrx.badCount + 1 := by decide

theorem witness_LockIsLostAtTheTolerance :
    let s := { inLock .flywheel 2 with rrx := { (inLock .flywheel 2).rrx with watch := some 576 } }
    let t := { running with
      rrx := { locked.rrx with ringset := ⟨1, 16⟩ }
      cmu := { running.cmu with fault := some ⟨.busClip, 7, 5⟩ } }
    rowsExist s = true ∧ s.inWindow = false ∧ idleReaches s.tld = false ∧ (endWindow s).cmu.fault = none ∧
    (s.rrx.lock = .flywheel ∧ s.rrx.ringset.tolerance ≤ s.rrx.badCount + 1) ∧ s.rrx.watch = some 576 ∧
    (rowsExist t = true ∧ t.rrx.lock = .locked ∧ t.rrx.ringset.tolerance = 1 ∧ t.rrx.lastStart + 461 ≤ 461) ∧
    (t.inWindow = true ∧ idleReaches t.tld = false ∧ (endWindow t).cmu.fault.isSome = true) ∧
    frameGood cutFrame = false :=
  ⟨by decide +kernel, rfl, rfl, by decide +kernel, by decide, rfl, by decide +kernel, by decide +kernel, cutFrame_bad⟩

theorem witness_SearchingTakesFramesByCheck :
    State.reset.rrx.lock = .searching ∧ frameGood cutFrame = false ∧ frameGood (goodFrame 1 false) = true ∧
    460 < State.reset.rrx.lastStart + 461 ∧ State.reset.rrx.lastStart + 461 ≤ 461 ∧ rowsExist State.reset = true :=
  ⟨rfl, cutFrame_bad, goodFrame_good _ _, by decide, by decide, by decide +kernel⟩

theorem witness_AcquiringCountsFrames :
    let s := { inLock .acquiring 0 with rrx := { (inLock .acquiring 0).rrx with goodCount := 15 } }
    s.rrx.lock = .acquiring ∧ frameGood (goodFrame 1 false) = true ∧ s.rrx.lastStart + 461 ≤ 461 ∧
    (goodFrame 1 false).number = s.rrx.prevNumber + 1 ∧ rowsExist s = true ∧
    s.rrx.ringset.acquire ≤ min (s.rrx.goodCount + 1) 255 ∧
    min ((inLock .acquiring 0).rrx.goodCount + 1) 255 < (inLock .acquiring 0).rrx.ringset.acquire ∧
    frameGood (goodFrame 2 false) = true ∧ (goodFrame 2 false).number ≠ s.rrx.prevNumber + 1 ∧
    frameGood cutFrame = false ∧ 460 < s.rrx.lastStart + 461 :=
  ⟨rfl, goodFrame_good _ _, by decide, rfl, by decide +kernel, by decide, by decide, goodFrame_good _ _, by decide,
    cutFrame_bad, by decide⟩

theorem witness_WatchExpirySendsAStandIn :
    let s := { inLock .flywheel 1 with rrx := { (inLock .flywheel 1).rrx with watch := some 576 } }
    rowsExist locked = true ∧ locked.rrx.watch = some 576 ∧
    (locked.rrx.lock = .locked ∧ 2 ≤ locked.rrx.ringset.tolerance) ∧
    rowsExist s = true ∧ s.rrx.watch = some 576 ∧ s.rrx.lock = .flywheel ∧
    s.rrx.badCount + 1 < s.rrx.ringset.tolerance := by decide +kernel

theorem witness_LocalTimerExpiryOriginates :
    let s := { inLock .acquiring 0 with rrx := { (inLock .acquiring 0).rrx with localTimer := some 564 } }
    rowsExist State.reset = true ∧ State.reset.rrx.lock = .searching ∧ State.reset.rrx.localTimer = some 512 ∧
    rowsExist s = true ∧ s.rrx.lock = .acquiring ∧ s.rrx.localTimer = some 564 := by decide +kernel

theorem witness_FrameBitsAreInTheirPlaces :
    let s := fun f : Frame => { locked with rtx := { locked.rtx with sent := some f } }
    (s (blankFrame 1 true 0 0)).rtx.sent = some (blankFrame 1 true 0 0) ∧ (blankFrame 1 true 0 0).cut = none ∧
    (s cutFrame).rtx.sent = some cutFrame ∧ cutFrame.cut = some 100 ∧
    (Instr.frameArrival 0 cutFrame).wellFormed = true := by decide

/-- The locked machine with an open load whose idle timer stands one window short of its timeout. -/
def idling : State :=
  { locked with tld := { (loading .mods .ascending 3 4 []).tld with idle := some 1023 } }

theorem witness_OpeningEventsRunTheWindow :
    (rowsExist idling = true ∧ (idling.rrx.takeFrame 461 (goodFrame 1 false)).opening = some (.good (goodFrame 1 false)) ∧
      (goodFrame 1 false).kind ≠ 3 ∧ idling.tld.isOpen = true ∧ idling.tld.idle = some 1023 ∧
      1023 + 1 = idling.tld.timeout * 1024 ∧ (endWindow idling).cmu.fault = none ∧
      (idling.rrx.takeFrame 461 (goodFrame 1 false)).lost = false) ∧
    ((loading .mods .fill 3 4 []).tld.idle = some 5 ∧ 5 + 1 ≠ (loading .mods .fill 3 4 []).tld.timeout * 1024) ∧
    (idleReaches locked.tld = false ∧ locked.tld.isOpen = false) ∧
    (let marked := { surveying ⟨.decay, 3, 1, 6, .mark⟩ with scc := { locked.scc with scene := .armed } }
     (goodFrame 1 true).mark = true ∧ (marked.rrx.takeFrame 461 (goodFrame 1 true)).rrx.lock = .locked ∧
       (startBlocks 461 marked).scc.scene = .armed ∧ (startBlocks 461 marked).svu.state ≠ .idle ∧
       (startBlocks 461 marked).svu.startPending = none ∧
       (startBlocks 461 marked).svu.config = some ⟨.decay, 3, 1, 6, .mark⟩) ∧
    (rowsExist locked = true ∧ locked.rrx.takeMissing.opening = some .missing ∧ watchTime locked.rrx = some 576) ∧
    (rowsExist State.reset = true ∧ State.reset.rrx.takeLocal.opening = some .localTimer ∧
      localTime State.reset.rrx = some 512) := by
  have h : idling.rrx.takeFrame 461 (goodFrame 1 false) =
      Taken.opens (idling.rrx.takeFollowed 461 (goodFrame 1 false)) (.good (goodFrame 1 false)) := by
    show Rrx.takeFollowing _ _ _ = _
    rw [Rrx.takeFollowing, if_neg (by decide), if_pos (goodFrame_good 1 false)]
  have g : ({ surveying ⟨.decay, 3, 1, 6, .mark⟩ with scc := { locked.scc with scene := .armed } } : State).rrx.takeFrame 461
      (goodFrame 1 true) = Taken.opens (locked.rrx.takeFollowed 461 (goodFrame 1 true)) (.good (goodFrame 1 true)) := by
    show Rrx.takeFollowing _ _ _ = _
    rw [Rrx.takeFollowing, if_neg (by decide), if_pos (goodFrame_good 1 true)]
    rfl
  exact ⟨⟨by decide +kernel, by rw [h]; rfl, by decide, rfl, rfl, by decide, by decide +kernel, by rw [h]; rfl⟩,
    by decide, by decide, ⟨rfl, by rw [g]; rfl, by decide +kernel, by decide +kernel, by decide +kernel, by decide +kernel⟩,
    by decide +kernel, by decide +kernel⟩

theorem witness_RestartActsAtTheWindowStart :
    { locked with cmu := { locked.cmu with restartPending := true } }.cmu.restartPending = true := rfl

theorem witness_WindowStartTakesTablesIntoForce :
    let s := { locked with
      tables := { locked.tables with lines := locked.tables.lines.put 0 0x001000#24, groups := locked.tables.groups.put 0 0x008011#24 }
      dmc := { locked.dmc with timing := { locked.dmc.timing with refreshOn := false } } }
    s.cmu.restartPending = false ∧ (s.lines.get 0).rows ≠ rowsOf (s.tables.lines.get 0) ∧
    (tapOf ((activeBank s).taps.get 0)).source = 0 ∧ locked.dmc.timing.refreshOn = true ∧
    (timingOf locked.tables.timing).refreshOn = true ∧ s.dmc.timing.refreshOn = false ∧
    (s.sgd.groups.get 0).entry ≠ groupOf (s.tables.groups.get 0) ∧
    (groupOf (s.tables.groups.get 0)).floor = 1 := by decide +kernel

theorem witness_WindowStart_takes_the_survey :
    let held := fun (c : SurveyConfig) (trigger : Bool) => { locked with svu := { locked.svu with
      state := .waiting, startPending := some c, triggerPending := trigger } }
    let armed := fun c : SurveyConfig => { surveying c with svu := { (surveying c).svu with triggerPending := true } }
    let refreshing := { locked with tables := { locked.tables with timing := ⟨0, 15⟩ } }
    (held ⟨.levelSingle, 87, 1, 6, .now⟩ false).svu.state ≠ .idle ∧
    (held ⟨.decay, 87, 1, 6, .mark⟩ true).svu.triggerPending = true ∧
    (held ⟨.decay, 87, 1, 6, .mark⟩ false).svu.triggerPending = false ∧
    locked.svu.startPending = none ∧ locked.svu.triggerPending = false ∧
    ((armed ⟨.levelRepeat, 3, 1, 6, .mark⟩).svu.startPending = none ∧
      (armed ⟨.levelRepeat, 3, 1, 6, .mark⟩).svu.triggerPending = true ∧
      (armed ⟨.decay, 3, 1, 6, .swap⟩).svu.config = some ⟨.decay, 3, 1, 6, .swap⟩) ∧
    (refreshing.dmc.timing.refreshOn = true ∧ (timingOf refreshing.tables.timing).refreshOn = false) := by
  decide +kernel

theorem lined_lines : LinesInv lined := by
  unfold LinesInv lineOk
  decide +kernel

theorem witness_EarlyStagesWriteTheInputs :
    let s := { lined with memory := [⟨1025, 7, 0⟩], dmc := { lined.dmc with pendingRefresh := 1 } }
    LinesInv lined ∧ (lined.lines.get 0).rows ≠ 0 ∧ (lined.lines.get 1).rows = 0 ∧
    (LinesInv s ∧ 1 ≤ s.dmc.pendingRefresh ∧ Memory.find s.memory 1025 = some ⟨1025, 7, 0⟩ ∧
      (∀ i : Fin 40, i.val < 24 → (s.lines.get i).rows ≠ 0 →
        1025 ≠ (s.lines.get i).address (((s.lines.get i).wp + 1) % (s.lines.get i).length)) ∧
      longestHold 0 s.lapse.windows s.lapse.served = 0) :=
  ⟨lined_lines, by decide +kernel, by decide +kernel, lined_lines, by decide, rfl, by decide +kernel, rfl⟩

/-- One tap of two reads on an input line, its row open to writes, with as many units left as given. -/
def tight (units : Nat) : State :=
  let taps := SceneBank.blank.taps.put 0 ⟨0x00083F#24, 4#24, 0x800001#24⟩
  let b : SceneBank := { SceneBank.blank with header := ⟨1, 0, 0⟩, taps := taps }
  { locked with
    tables := { locked.tables with bankA := b }
    lines := locked.lines.put 0 ⟨0, 1, 5, 1024⟩
    dmc := { locked.dmc with openRow := some 0, direction := some .write, spend := 1200 - units } }

/-- R60's fourth case in the open row: turnaround 2, then 2 and 2. With 6 units the tap is served, and with 5 it is shed. -/
theorem test_tap_pass_cost :
    ((runTaps (tight 6)).shed, (runTaps (tight 6)).spent) = (0, 6) ∧
    ((runTaps (tight 5)).shed, (runTaps (tight 5)).spent) = (1, 0) := by decide +kernel

theorem witness_TapPassKeepsToItsAllowance :
    tapCount (activeBank (tight 6)).header = 1 ∧ (runTaps (tight 6)).shed = 0 ∧ (runTaps (tight 5)).shed ≠ 0 ∧
    rampFactor (tight 6) ≤ 1024 ∧ (1 : Fin 1024).val ≥ tapCount (activeBank (tight 6)).header := by decide +kernel

theorem witness_AccessesCostTheirUnits :
    rowsExist lined = true ∧ lined.inWindow = true ∧ swapClearsHere lined = false ∧
    (lined.lines.get 39).rows ≠ 0 ∧ swapClearsHere (fading 1 .fadeOut 1 (some .swapHold)) = true := by decide +kernel

theorem witness_TapsReadTheirDelays :
    40 ≤ (⟨40, 0, 8, 32, 0, 0, 5⟩ : Tap).source ∧ (⟨39, 0, 8, 31, 2047, 255, 5⟩ : Tap).source = (39 : Fin 40).val ∧
    (lined.lines.get 39).rows ≠ 0 ∧ (lined.lines.get 38).rows = 0 ∧
    (⟨39, 0, 8, 31, 2047, 255, 5⟩ : Tap).generator = (31 : Fin 32).val ∧
    (tapReads lined ⟨0, 0, 8, 32, 1022, 255, 5⟩ = ⟨some 1, none, 0⟩ ∧
      tapReads lined ⟨0, 0, 8, 32, 1021, 255, 5⟩ = ⟨some 2, some 1, 255⟩) ∧
    tapReads lined ⟨39, 0, 8, 32, 1, 255, 5⟩ = ⟨none, none, 255⟩ := by decide +kernel

theorem witness_CoefficientNeverPassesTheGain :
    let groups := (Regs.fill 8 Group.initial).put 1 { Group.initial with applied := 61 }
    (∀ g, (groups.get g).applied ≤ 61) ∧ (512 : Nat) ≤ 1024 ∧ (⟨3, 0, 1, 32, 0, 0, 5⟩ : Tap).group = (1 : Fin 8).val ∧
    (groups.get 1).applied = 61 ∧ (groups.get 0).applied = 0 ∧ 8 ≤ (⟨3, 0, 8, 32, 0, 0, 5⟩ : Tap).group ∧
    guardedGain (-24576) 6 (groups.put 6 { Group.initial with applied := 6 }) = -17399 := by decide +kernel

theorem witness_InterpolationLiesBetweenItsSamples :
    (⟨some 7, none, 255⟩ : TapReads).fraction ≤ 255 ∧ (⟨some 7, none, 255⟩ : TapReads).x1 = none ∧
    (⟨some 7, some 8, 0⟩ : TapReads).fraction = 0 := by decide

/-- A window whose buses 5 and 9 clip and whose output 7 stands at the last value that does not. -/
def clipping (s : State) (fault : Option FaultNote) (later : Nat) : State :=
  { s with
    tpe := { s.tpe with
      buses := (s.tpe.buses.put 5 (BitVec.ofInt 50 274877890560)).put 9 (BitVec.ofInt 50 (-274877923329))
      outs := s.tpe.outs.put 7 (BitVec.ofInt 50 274877890559) }
    cmu := { s.cmu with fault := fault, laterCount := later } }

theorem witness_WindowEndFinishesTheOutputs :
    (rowsExist running = true ∧ running.inWindow = true) ∧
    (rowsExist (clipping running none 0) = true ∧ (clipping running none 0).inWindow = true) := by decide +kernel

theorem witness_WindowEndWritesTheBuses :
    rowsExist lined = true ∧ lined.inWindow = true ∧ LinesInv lined ∧ swapClearsHere lined = false ∧
    lined.scc.swapDue = false ∧ (lined.lines.get 39).rows ≠ 0 ∧ (lined.lines.get 38).rows = 0 ∧
    (let due := { lined with scc := { lined.scc with swapDue := true } }
     due.scc.swapDue = true ∧ fadeOutEnds due = false ∧ swapClearsHere due = false ∧ rowsExist due = true) :=
  ⟨by decide +kernel, rfl, lined_lines, by decide +kernel, rfl, by decide +kernel, by decide +kernel, by decide +kernel⟩

/-- A running window in which channel 3 stands at the negative end, with detector 3 about to trip for the last time. -/
def tripping (action : Action) (flag : Bool) (trips : Nat) : State :=
  let e := { DetectorEntry.zero with enable := true, group := 2, action := action, forgiveness := 1, limit := 2 }
  let d := { Detector.initial with entry := e, debounce := 15, flag := flag, trips := trips }
  { running with
    ios := { running.ios with conditioned := running.ios.conditioned.put 3 0x800000#24 }
    sgd := { running.sgd with detectors := running.sgd.detectors.put 3 d } }

/-- A last trip reduces or cuts, and a latched detector only counts (R100, R104, R105). Two clipped buses are one fault, which a full
record counts (R26, R172). A decay from 0 quarter-dB, silent since:
t20 and t30 come at once, and entry 0 is written (R203). A swap made due in HELD, with a RESUME after it in the same window: the
scene stays, and the banks change places (R76). -/
theorem test_windowEnd_steps_guard_survey_and_scene :
    let s := surveying ⟨.decay, 3, 1, 10, .mark⟩
    after .windowEnd (tripping .reduce false 3) (fun t =>
      ((t.sgd.detectors.get 3).flag, (t.sgd.detectors.get 3).total, (t.sgd.groups.get 2).target)) = some (true, 1, 3) ∧
    after .windowEnd (tripping .cut false 3) (fun t =>
      ((t.sgd.groups.get 2).target, t.cmu.fault)) = some (61, some ⟨.guardCut, 255, 2⟩) ∧
    after .windowEnd (clipping running (some ⟨.lockLost, 7, 0⟩) 250) (fun t =>
      (t.cmu.fault, t.cmu.laterCount, t.tpe.busClips, t.ios.outClips)) = some (some ⟨.lockLost, 7, 0⟩, 251, 2, 0) ∧
    after .windowEnd (tripping .note true 1) (fun t =>
      ((t.sgd.detectors.get 3).total, (t.sgd.detectors.get 3).trips)) = some (1, 1) ∧
    after .windowEnd { s with inWindow := true, svu := { s.svu with reference := some 0, sequence := 255 } }
      (fun t => (t.tables.results.get 0, t.svu.state)) =
      some (⟨0x800000#24, 0x030001#24, 1#24⟩, .waiting) ∧
    after .windowEnd { running with scc := { running.scc with swapDue := true, scene := .fadeIn, windowState := .held } }
      (fun t => (t.scc.scene, t.scc.ramp, t.scc.active, t.scc.swapDue, t.scc.swaps)) =
      some (.fadeIn, 0, .b, false, 1) := by decide +kernel

theorem witness_WindowEndStepsTheGuard :
    let held := fun d : Detector => { running with sgd := { running.sgd with detectors := running.sgd.detectors.put 3 d } }
    let waiting := held { Detector.initial with entry := { DetectorEntry.zero with enable := true, forgiveness := 1 }, forgive := 1023 }
    (rowsExist running = true ∧ running.inWindow = true ∧ (running.sgd.detectors.get 3).entry.enable = false) ∧
    (rowsExist (tripping .cut false 3) = true ∧ (tripping .cut false 3).inWindow = true ∧
      ((tripping .cut false 3).sgd.detectors.get 3).entry.enable = true ∧
      (tripping .cut false 3).cmu.laterCount ≤ 255 ∧ (tripping .cut false 3).cmu.fault = none) ∧
    (let s := clipping (tripping .cut false 3) none 255
     let u := clipping running (some ⟨.lockLost, 7, 0⟩) 0
     rowsExist s = true ∧ s.inWindow = true ∧ (clippedBuses s).length = 2 ∧ s.cmu.laterCount ≤ 255 ∧
     rowsExist u = true ∧ u.inWindow = true ∧ (clippedBuses u).length = 2 ∧ u.cmu.fault.isSome = true) ∧
    ((waiting.sgd.detectors.get 3).forgive + 1 = (waiting.sgd.detectors.get 3).entry.forgiveness * 1024 ∧
      (waiting.sgd.detectors.get 4).forgive + 1 ≠ (waiting.sgd.detectors.get 4).entry.forgiveness * 1024) ∧
    ((running.sgd.groups.get 2).entry.floor ≤ 60 ∧
      (running.sgd.groups.get 2).timer + 1 ≠ (running.sgd.groups.get 2).entry.recovery * 256 ∧
      (⟨⟨3, 40, 32⟩, 60, 7, 8191⟩ : Group).timer + 1 = (⟨⟨3, 40, 32⟩, 60, 7, 8191⟩ : Group).entry.recovery * 256) := by
  decide +kernel

theorem witness_WindowEndStepsTheScene :
    let s := fun (c : SceneState) (ramp : Nat) (t : Option FadeTarget) => { scene c ramp t with inWindow := true }
    (rowsExist (s .fadeOut 2 (some .hold)) = true ∧ (s .fadeOut 2 (some .hold)).scc.windowState = .fadeOut ∧
      (s .fadeOut 2 (some .hold)).scc.swapDue = false) ∧
    (rowsExist (s .fadeOut 1 (some .swapHold)) = true ∧ (s .fadeOut 1 (some .swapHold)).scc.ramp ≤ 1) ∧
    (rowsExist (s .fadeIn (activeRamp locked - 1) none) = true ∧
      (s .fadeIn (activeRamp locked - 1) none).scc.ramp + 1 = activeRamp locked) ∧
    { running with scc := { running.scc with swapDue := true } }.scc.scene = .held ∧
    (let resumed := { running with scc := { running.scc with swapDue := true, scene := .fadeIn, windowState := .held } }
     rowsExist resumed = true ∧ resumed.scc.swapDue = true ∧ resumed.scc.scene ≠ resumed.scc.windowState) := by
  decide +kernel

theorem witness_WindowEndMeasures :
    let s := fun (c : SurveyConfig) (n : Nat) =>
      { surveying c with inWindow := true, svu := { (surveying c).svu with counter := n } }
    (rowsExist (s ⟨.levelSingle, 87, 1, 6, .now⟩ 62) = true ∧ (s ⟨.levelSingle, 87, 1, 6, .now⟩ 62).inWindow = true ∧
      (s ⟨.levelSingle, 87, 1, 6, .now⟩ 62).svu.startPending = none ∧
      (s ⟨.levelSingle, 87, 1, 6, .now⟩ 62).svu.counter + 1 < 2 ^ 6) ∧
    ((s ⟨.levelSingle, 87, 1, 6, .now⟩ 63).svu.counter + 1 = 2 ^ 6 ∧
      (s ⟨.levelSingle, 87, 1, 6, .now⟩ 63).svu.position < 16 ∧
      (s ⟨.levelSingle, 87, 1, 6, .now⟩ 63).svu.peak ≤ 8388608) ∧
    (s ⟨.decay, 24, 1, 6, .mark⟩ 0).svu.state ≠ .idle ∧ locked.svu.state ≠ .measuring ∧
    ((s ⟨.decay, 87, 1, 18, .mark⟩ 0).svu.reference = some (-100) ∧
      (s ⟨.decay, 87, 1, 18, .mark⟩ 0).svu.t30 = none ∧ 0 + 1 ≠ 2 ^ 18 ∧ 262143 + 1 = 2 ^ 18) ∧
    { (s ⟨.decay, 87, 1, 18, .mark⟩ 0).svu with state := .waiting }.state = .waiting ∧
    (let last := { (s ⟨.levelRepeatSweep, 72, 16, 6, .mark⟩ 63).svu with position := 15 }
     last.counter + 1 = 2 ^ 6 ∧ last.position < 16 ∧ 72 + last.position < 88 ∧ ¬(last.position + 1 < 16)) ∧
    (rowsExist running = true ∧ running.inWindow = true ∧ running.svu.config = none) ∧
    { locked.svu with startPending := some ⟨.levelSingle, 0, 1, 6, .now⟩ }.startPending.isSome = true := by decide +kernel

theorem witness_TimersRaiseTheirFaults :
    let held := { loading .taps .fill 0 0 [] with cmu := { locked.cmu with fault := some ⟨.busClip, 0, 0⟩ } }
    (locked.dmc.refreshDue = some 1470 ∧ locked.dmc.pendingRefresh < 7 ∧
      7 ≤ { locked.dmc with pendingRefresh := 7 }.pendingRefresh ∧ locked.cmu.fault = none) ∧
    ((loading .taps .fill 0 0 []).tld.isOpen = true ∧ (loading .taps .fill 0 0 []).cmu.fault = none ∧
      locked.tld.isOpen = false) ∧
    (held.tld.isOpen = true ∧ held.cmu.fault.isSome = true) := by decide

theorem witness_GuardEventsActAlone :
    ((watching .note 2).sgd.detectors.get 3).entry.enable = true ∧
    ((watching .note 2).sgd.detectors.get 3).flag = false ∧
    ((watching .note 2).sgd.detectors.get 3).trips + 1 < ((watching .note 2).sgd.detectors.get 3).entry.tripLimit ∧
    ((watching .cut 3).sgd.detectors.get 3).entry.tripLimit ≤ ((watching .cut 3).sgd.detectors.get 3).trips + 1 ∧
    (watching .cut 3).cmu.fault = none ∧ ((watching .cut 3).sgd.detectors.get 4).entry.enable = false := by
  decide +kernel

theorem witness_FadesReachTheirEnds :
    let due := fading 1 .fadeOut 1 (some .swapHold)
    let done := fading 0 .fadeIn 16 none
    (rowsExist due = true ∧ due.inWindow = true ∧ due.scc.scene = .fadeOut ∧ due.scc.windowState = .fadeOut ∧
      due.scc.ramp ≤ 1 ∧ due.scc.swapDue = false ∧ due.scc.target = some .swapHold ∧
      (due.tables.bank due.scc.active.other).header.w2.getLsbD 0 = true) ∧
    (rowsExist done = true ∧ done.inWindow = true ∧ done.scc.scene = .fadeIn ∧ done.scc.windowState = .fadeIn ∧
      done.scc.ramp = activeRamp done ∧ done.scc.swapDue = false) ∧
    (fading 0 .fadeIn 15 none).scc.ramp + 1 = activeRamp (fading 0 .fadeIn 15 none) ∧
    ¬((fading 0 .fadeOut 2 (some .hold)).scc.ramp ≤ 1) := by decide +kernel

theorem witness_FinishRowsWriteTheirEntries_level :
    let c : SurveyConfig := ⟨.levelSweep, 72, 16, 6, .now⟩
    let s := { surveying c with svu := { (surveying c).svu with position := 15, peak := 8388608 } }
    s.svu.state = .measuring ∧ s.svu.config = some c ∧ c.mode ≠ .decay ∧ s.svu.position < 16 ∧
    c.start + s.svu.position < 88 ∧ s.svu.peak ≤ 8388608 ∧ c.group ≤ s.svu.position + 1 := by decide

theorem witness_FinishRowsWriteTheirEntries_decay :
    let c : SurveyConfig := ⟨.decay, 87, 1, 6, .mark⟩
    let s := { surveying c with svu := { (surveying c).svu with reference := some (-480), t20 := some 65535 } }
    s.svu.state = .measuring ∧ s.svu.config = some c ∧ c.mode = .decay ∧ c.start < 88 ∧
    s.svu.reference = some (-480) ∧ s.svu.t20.getD 65535 ≤ 65535 ∧ s.svu.t30.getD 65535 ≤ 65535 := by decide

theorem witness_StepsKeepTheLines : LinesInv lined ∧ MemoryInv lined ∧ step lined = .next lined := by
  refine ⟨lined_lines, ⟨by decide +kernel, ?_⟩, rfl⟩
  intro c h
  cases h

theorem witness_StepsKeepTheOutputQueue : QueueInv running ∧ step running = .next running := ⟨rfl, rfl⟩

theorem witness_StepsKeepTheReceiver : ReceiverInv locked ∧ step locked = .next locked := by
  refine ⟨?_, rfl⟩
  unfold ReceiverInv ringOk
  decide +kernel

theorem witness_StepsKeepTheShadowLock :
    SceneInv (loading .taps .fill 0 0 []) ∧ step (loading .taps .fill 0 0 []) = .next (loading .taps .fill 0 0 []) := by
  refine ⟨?_, rfl⟩
  unfold SceneInv
  decide +kernel

theorem witness_StepsKeepTheCommandUnit : UnitInv locked ∧ step locked = .next locked := by
  refine ⟨?_, rfl⟩
  unfold UnitInv
  decide +kernel

theorem witness_StepsKeepTheFrameBudget :
    BudgetInv lined ∧ RefreshInv lined ∧ step lined = .next lined := by
  refine ⟨?_, ?_, rfl⟩
  · unfold BudgetInv
    decide +kernel
  · unfold RefreshInv
    decide +kernel

theorem witness_StepsKeepTheGuard : GuardInv (watching .cut 3) ∧ step (watching .cut 3) = .next (watching .cut 3) := by
  refine ⟨?_, rfl⟩
  unfold GuardInv detectorOk groupOk
  decide +kernel

theorem witness_StepsKeepTheLoader :
    LoaderInv (loading .mods .ascending 31 0 [1#24, 2#24]) ∧
    step (loading .mods .ascending 31 0 [1#24, 2#24]) = .next (loading .mods .ascending 31 0 [1#24, 2#24]) :=
  ⟨loading_inv, rfl⟩

theorem witness_StepsKeepTheSurvey :
    SurveyInv (surveying ⟨.levelRepeat, 87, 1, 6, .mark⟩) ∧
    step (surveying ⟨.levelRepeat, 87, 1, 6, .mark⟩) = .next (surveying ⟨.levelRepeat, 87, 1, 6, .mark⟩) := by
  refine ⟨⟨?_, ?_, ?_, by decide, by decide, by decide, fun _ => ⟨_, rfl, by decide, by decide, by decide, by decide⟩,
    by decide⟩, rfl⟩
  · rintro c h
    cases h
    unfold configOk
    decide
  · rintro c h
    cases h
  · rintro c h
    cases h
    decide

end Sys2Proof.Tests
end

section
/-! The quarter-dB level (R2). The search that computes lev compares v^40 × 10^m with 2^1840 in integers; taking
logarithms this is the comparison of 40 × log10(v / 2^46) with −m, so the step at which the search stops is the floor
in the reals. -/

namespace Sys2Proof.Machine

/-- What the search of `levSteps_spec` finds when it runs for lev: a number of steps m up to 480, the least that
reaches 2^1840 where one below 480 does. -/
theorem lev_spec (v : Nat) :
    ∃ m : Nat, lev v = -(m : Int) ∧ m ≤ 480 ∧ (∀ i < m, v ^ 40 * 10 ^ i < 2 ^ 1840) ∧
      (m < 480 → 2 ^ 1840 ≤ v ^ 40 * 10 ^ m) := by
  obtain ⟨m, hm, hle, hbelow, hreach⟩ := levSteps_spec 480 (v ^ 40) 0
  exact ⟨m, by rw [lev, hm, Nat.zero_add], hle, hbelow, hreach⟩

theorem lev_range (v : Nat) : -480 ≤ lev v ∧ lev v ≤ 0 := by
  obtain ⟨m, hm, hle, -, -⟩ := lev_spec v
  omega

/-- Silence never reaches 2^1840, so the search ends at its last step. -/
theorem lev_zero : lev 0 = -480 := by
  obtain ⟨m, hm, hle, -, hreach⟩ := lev_spec 0
  have hzero : 0 ^ 40 * 10 ^ m = 0 := by simp
  have hlast : ¬ m < 480 := fun hlt => (Nat.two_pow_pos 1840).not_ge (hzero ▸ hreach hlt)
  omega

/-- The quarter-dB logarithm of R2, before it is rounded and raised to −480. -/
noncomputable def quarterDb (v : Nat) : ℝ := 40 * Real.logb 10 ((v : ℝ) / 2 ^ 46)

/-- One comparison of the search is one comparison of the logarithm with a whole number of quarter-dB steps. -/
theorem neg_le_quarterDb_iff {v : Nat} (hv : 0 < v) (m : Nat) :
    -(m : ℝ) ≤ quarterDb v ↔ 2 ^ 1840 ≤ v ^ 40 * 10 ^ m := by
  have hv' : (0 : ℝ) < v := Nat.cast_pos.2 hv
  have hlog : quarterDb v + m = Real.logb 10 ((v : ℝ) ^ 40 * 10 ^ m / 2 ^ 1840) := by
    have hpow : (v : ℝ) ^ 40 * 10 ^ m / 2 ^ 1840 = ((v : ℝ) / 2 ^ 46) ^ 40 * 10 ^ m := by
      rw [div_pow, ← pow_mul, div_mul_eq_mul_div]
    rw [hpow, Real.logb_mul (by positivity) (by positivity), Real.logb_pow, Real.logb_pow,
      Real.logb_self_eq_one (by norm_num), quarterDb]
    push_cast
    ring
  calc -(m : ℝ) ≤ quarterDb v
      ↔ 0 ≤ quarterDb v + m := neg_le_iff_add_nonneg
    _ ↔ 1 ≤ (v : ℝ) ^ 40 * 10 ^ m / 2 ^ 1840 := by
      rw [hlog, Real.logb_nonneg_iff (by norm_num) (by positivity)]
    _ ↔ (2 : ℝ) ^ 1840 ≤ (v : ℝ) ^ 40 * 10 ^ m := one_le_div (by positivity)
    _ ↔ 2 ^ 1840 ≤ v ^ 40 * 10 ^ m := by exact_mod_cast Iff.rfl

/-- Full scale is 2^46. -/
theorem quarterDb_nonpos {v : Nat} (hv : v ≤ 2 ^ 46) : quarterDb v ≤ 0 := by
  have hle : (v : ℝ) ≤ 2 ^ 46 := by exact_mod_cast hv
  have hratio : (v : ℝ) / 2 ^ 46 ≤ 1 := div_le_one_of_le₀ hle (by positivity)
  have hlog := Real.logb_nonpos (b := 10) (by norm_num) (by positivity) hratio
  rw [quarterDb]
  linarith

/-- The search passes every step above the logarithm, and stops at the first at or below it. -/
theorem lev_eq_max_floor {v : Nat} (hpos : 0 < v) (hv : v ≤ 2 ^ 46) : lev v = max (-480) ⌊quarterDb v⌋ := by
  obtain ⟨m, hm, hle, hbelow, hreach⟩ := lev_spec v
  have habove : ∀ i < m, quarterDb v < -(i : ℝ) := fun i hi =>
    lt_of_not_ge fun h => absurd ((neg_le_quarterDb_iff hpos i).1 h) (hbelow i hi).not_ge
  have hfloor_le : ⌊quarterDb v⌋ ≤ -(m : Int) := by
    cases m with
    | zero =>
      have hlt : ⌊quarterDb v⌋ < 1 := Int.floor_lt.2 (by push_cast; linarith [quarterDb_nonpos hv])
      omega
    | succ i =>
      have hlt : ⌊quarterDb v⌋ < -(i : Int) := Int.floor_lt.2 (by exact_mod_cast habove i i.lt_succ_self)
      omega
  rcases hle.lt_or_eq with hlt | rfl
  · have hle_floor : -(m : Int) ≤ ⌊quarterDb v⌋ :=
      Int.le_floor.2 (by exact_mod_cast (neg_le_quarterDb_iff hpos m).2 (hreach hlt))
    omega
  · omega

/-- Settles O50: the ranges and the level of silence from the search, and its stopping step from the logarithm. -/
theorem levelIsTheQuarterDbLogarithm : Obligations.LevelIsTheQuarterDbLogarithm :=
  ⟨lev_zero, fun _ hpos hv => lev_eq_max_floor hpos hv, lev_range, by decide +kernel⟩

end Sys2Proof.Machine
end

section
/-! Between two values (R16, R19, R20). A floored weighted mean of two integers lies between them. The interpolated
value of a tap is such a mean of its two samples; an attenuation and the ramp each make such a mean of 0 and the value
they scale, and so never make it larger. -/

namespace Sys2Proof.Machine

/-- The floor passes neither value, because both are integers. -/
theorem floor_mean_between (x y : Int) {k n : Nat} (hn : 0 < n) (hk : k ≤ n) :
    min x y ≤ (x * (n - k) + y * k) / n ∧ (x * (n - k) + y * k) / n ≤ max x y := by
  have hpos : (0 : Int) < n := by exact_mod_cast hn
  have hw0 : (0 : Int) ≤ k := k.cast_nonneg
  have hw1 : (0 : Int) ≤ n - k := sub_nonneg.2 (by exact_mod_cast hk)
  have hsame (z : Int) : z * n = z * (n - k) + z * k := by ring
  constructor
  · rw [Int.le_ediv_iff_mul_le hpos, hsame]
    exact add_le_add (mul_le_mul_of_nonneg_right (min_le_left x y) hw1)
      (mul_le_mul_of_nonneg_right (min_le_right x y) hw0)
  · refine Int.ediv_le_of_le_mul hpos ?_
    rw [hsame]
    exact add_le_add (mul_le_mul_of_nonneg_right (le_max_left x y) hw1)
      (mul_le_mul_of_nonneg_right (le_max_right x y) hw0)

/-! ### The coefficient -/

/-- Scaling by a factor between 0 and 1, toward minus infinity, is the mean with 0 (R20). -/
theorem natAbs_scaled_le (u : Int) {k n : Nat} (hn : 0 < n) (hk : k ≤ n) : (u * k / n).natAbs ≤ u.natAbs := by
  have hmean := floor_mean_between 0 u hn hk
  rw [zero_mul, zero_add] at hmean
  omega

theorem natAbs_attenuate_le (u : Int) {k : Nat} (hk : k ≤ mute) : (attenuate u k).natAbs ≤ u.natAbs :=
  natAbs_scaled_le u (by decide) (ga_le k (Nat.lt_succ_of_le hk))

theorem guardedGain_none (gain : Int) {group : Nat} (groups : Regs Group 8) (h : 8 ≤ group) :
    guardedGain gain group groups = gain :=
  if_neg h.not_gt

theorem guardedGain_group (gain : Int) (g : Fin 8) (groups : Regs Group 8) :
    guardedGain gain g groups = attenuate gain (groups.get g).applied := by
  rw [guardedGain, if_pos g.isLt, Fin.ofNat_val_eq_self]

theorem natAbs_guardedGain_le (gain : Int) (group : Nat) (groups : Regs Group 8)
    (hidx : ∀ g, (groups.get g).applied ≤ mute) : (guardedGain gain group groups).natAbs ≤ gain.natAbs := by
  rcases Nat.lt_or_ge group 8 with hlt | hge
  · rw [guardedGain_group gain ⟨group, hlt⟩]
    exact natAbs_attenuate_le gain (hidx _)
  · rw [guardedGain_none gain groups hge]

theorem natAbs_coefficient_le (t : Tap) (groups : Regs Group 8) {r : Nat} (hr : r ≤ 1024)
    (hidx : ∀ g, (groups.get g).applied ≤ mute) : (coefficient t groups r).natAbs ≤ t.gain.natAbs :=
  calc (coefficient t groups r).natAbs
      ≤ (guardedGain t.gain t.group groups).natAbs := natAbs_scaled_le _ (by decide) hr
    _ ≤ t.gain.natAbs := natAbs_guardedGain_le t.gain t.group groups hidx

theorem coefficient_at_mute (t : Tap) (groups : Regs Group 8) (r : Nat) {g : Fin 8} (hg : t.group = g)
    (hmute : (groups.get g).applied = mute) : coefficient t groups r = 0 := by
  rw [coefficient, hg, guardedGain_group, hmute, attenuate_mute, zero_mul, Int.zero_ediv]

theorem coefficient_ramp_zero (t : Tap) (groups : Regs Group 8) : coefficient t groups 0 = 0 := by
  simp [coefficient]

theorem coefficient_ramp_full (t : Tap) (groups : Regs Group 8) :
    coefficient t groups 1024 = guardedGain t.gain t.group groups :=
  Int.mul_ediv_cancel _ (by decide)

/-- Settles O39: the guard and the ramp each scale by a factor between 0 and 1, toward minus infinity. -/
theorem coefficientNeverPassesTheGain : Obligations.CoefficientNeverPassesTheGain := by
  intro t groups r hr hidx
  refine ⟨guardedGain_none t.gain groups, fun g hg => ?_, ga_mute, ga_zero, rfl, natAbs_coefficient_le t groups hr hidx,
    fun _ hg hmute => coefficient_at_mute t groups r hg hmute, ?ramp_zero, ?ramp_full, ?rounded_down⟩
  · rw [hg, guardedGain_group]
    exact ⟨rfl, fun hzero => by rw [hzero, attenuate_zero]⟩
  case ramp_zero =>
    rintro rfl
    exact coefficient_ramp_zero t groups
  case ramp_full =>
    rintro rfl
    exact coefficient_ramp_full t groups
  case rounded_down =>
    rintro hgain rfl
    rw [coefficient, hgain]
    decide

/-! ### The interpolated value -/

theorem interpolate_between (x0 x1 : Int) {f : Nat} (hf : f ≤ 255) :
    min x0 x1 ≤ interpolate x0 x1 f ∧ interpolate x0 x1 f ≤ max x0 x1 :=
  floor_mean_between x0 x1 (n := 256) (by decide) (by omega)

theorem interpolate_zero (x0 x1 : Int) : interpolate x0 x1 0 = x0 := by
  rw [interpolate]
  omega

@[simp] theorem sampleOf_none (m : Memory) (lapse : Lapse) : sampleOf m lapse none = 0 := rfl

@[simp] theorem sampleOf_some (m : Memory) (lapse : Lapse) (a : Nat) :
    sampleOf m lapse (some a) = (readSample m lapse a).toInt := rfl

theorem sampleOf_range (m : Memory) (lapse : Lapse) (a : Option Nat) :
    -2 ^ 23 ≤ sampleOf m lapse a ∧ sampleOf m lapse a < 2 ^ 23 := by
  cases a with
  | none => simp
  | some a => exact ⟨BitVec.le_toInt _, BitVec.toInt_lt⟩

/-- The interpolated value fits a sample, because both samples do: storing it loses nothing. -/
theorem TapReads.toInt_value (r : TapReads) (m : Memory) (lapse : Lapse) (hf : r.fraction ≤ 255) :
    (r.value m lapse).toInt = interpolate (sampleOf m lapse r.x0) (sampleOf m lapse r.x1) r.fraction := by
  obtain ⟨hlow0, hhigh0⟩ := sampleOf_range m lapse r.x0
  obtain ⟨hlow1, hhigh1⟩ := sampleOf_range m lapse r.x1
  obtain ⟨hmin, hmax⟩ := interpolate_between (sampleOf m lapse r.x0) (sampleOf m lapse r.x1) hf
  exact BitVec.toInt_ofInt_eq_self (by decide) ((le_min hlow0 hlow1).trans hmin) (hmax.trans_lt (max_lt hhigh0 hhigh1))

/-- Settles O40: the stored value is the floored mean of the two samples, weighted by the fraction. -/
theorem interpolationLiesBetweenItsSamples : Obligations.InterpolationLiesBetweenItsSamples := by
  intro r m lapse hf x0 x1
  have hvalue : (r.value m lapse).toInt = interpolate x0 x1 r.fraction := r.toInt_value m lapse hf
  obtain ⟨hmin, hmax⟩ := interpolate_between x0 x1 hf
  rw [hvalue]
  refine ⟨fun h => by simp [x0, h], fun h => by simp [x1, h], fun a h => by simp [x0, h], fun a h => by simp [x1, h],
    rfl, hmin, hmax, fun h => by rw [h, interpolate_zero]⟩

end Sys2Proof.Machine
end

section
/-! What the large operations leave as it was: each is said once, as the state before it with the fields that it may
change, and the fields that later proofs read are drawn from that. -/

namespace Sys2Proof.Machine

variable (s : State)

/-! ### Memory stages -/

/-- A write of a line changes the lines, the delay memory, and of its controller the spend and the row state. -/
def WritesOnly (s t : State) : Prop := ∃ lines openRow direction spend memory, t = { s with
  lines := lines, dmc := { s.dmc with openRow := openRow, direction := direction, spend := spend }, memory := memory }

theorem WritesOnly.trans {s t u : State} (h : WritesOnly s t) (k : WritesOnly t u) : WritesOnly s u := by
  obtain ⟨_, _, _, _, _, rfl⟩ := h
  obtain ⟨_, _, _, _, _, rfl⟩ := k
  exact ⟨_, _, _, _, _, rfl⟩

theorem inputWrite_frame (i : Fin 24) : WritesOnly s (inputWrite s i) := by
  unfold inputWrite
  dsimp only
  split <;> exact ⟨_, _, _, _, _, rfl⟩

theorem busWrite_frame (x : Regs Sample 16) (b : Fin 16) : WritesOnly s (busWrite x s b) := by
  unfold busWrite
  dsimp only
  split <;> exact ⟨_, _, _, _, _, rfl⟩

/-- A run of writes changes no more than each of its writes. -/
theorem foldl_writes_frame {ι : Type} (write : State → ι → State) (hwrite : ∀ t i, WritesOnly t (write t i))
    (l : List ι) : WritesOnly s (l.foldl write s) := by
  induction l generalizing s with
  | nil => exact ⟨_, _, _, _, _, rfl⟩
  | cons i l ih => exact (hwrite s i).trans (ih (write s i))

theorem inputStage_frame : WritesOnly s (inputStage s) := foldl_writes_frame s inputWrite inputWrite_frame _

theorem busStage_frame (x : Regs Sample 16) : ∃ lines openRow direction spend memory draws, busStage x s = { s with
    lines := lines, dmc := { s.dmc with openRow := openRow, direction := direction, spend := spend }
    memory := memory, draws := draws } := by
  unfold busStage
  obtain ⟨_, _, _, _, _, h⟩ := foldl_writes_frame s (busWrite x) (fun t b => busWrite_frame t x b)
    ((List.finRange 16).filter fun b => !clearedFirst s b)
  dsimp only
  rw [h]
  split <;> exact ⟨_, _, _, _, _, _, rfl⟩

theorem earlyStages_frame : ∃ lines dmc memory, earlyStages s = { s with
    lines := lines, dmc := dmc, memory := memory, lapse := (refreshStage s).lapse
    ios := (conditionInputs s).ios } := by
  obtain ⟨_, _, _, _, _, h⟩ := inputStage_frame (refreshStage (conditionInputs s))
  exact ⟨_, _, _, h⟩

/-! ### The window end -/

theorem raise_frame (k : FaultKind) (d : Nat) : ∃ fault laterCount,
    raise k d s = { s with cmu := { s.cmu with fault := fault, laterCount := laterCount } } := by
  rcases raiseAt_cases s.rtx.number k d s with ⟨_, h⟩ | ⟨_, h⟩ <;> exact ⟨_, _, h⟩

theorem raiseClip_frame (l : List (Fin 16)) : ∃ fault laterCount,
    raiseClip l s = { s with cmu := { s.cmu with fault := fault, laterCount := laterCount } } := by
  cases l with
  | nil => exact ⟨_, _, rfl⟩
  | cons b l => exact raise_frame s _ _

theorem raiseCuts_frame (l : List (Fin 8)) : ∃ fault laterCount,
    raiseCuts l s = { s with cmu := { s.cmu with fault := fault, laterCount := laterCount } } := by
  unfold raiseCuts
  induction l generalizing s with
  | nil => exact ⟨_, _, rfl⟩
  | cons g l ih =>
    obtain ⟨_, _, h⟩ := raise_frame s .guardCut g.val
    obtain ⟨_, _, hl⟩ := ih (raise .guardCut g.val s)
    rw [List.foldl_cons, hl, h]
    exact ⟨_, _, rfl⟩

theorem raiseWindowFaults_frame (l : List (Fin 16)) (m : List (Fin 8)) : ∃ draws fault laterCount,
    raiseWindowFaults l m s = { s with
      draws := draws, cmu := { s.cmu with fault := fault, laterCount := laterCount } } := by
  have both (t : State) : ∃ fault laterCount,
      raiseCuts m (raiseClip l t) = { t with cmu := { t.cmu with fault := fault, laterCount := laterCount } } := by
    obtain ⟨_, _, h⟩ := raiseClip_frame t l
    obtain ⟨_, _, hm⟩ := raiseCuts_frame (raiseClip l t) m
    rw [hm, h]
    exact ⟨_, _, rfl⟩
  unfold raiseWindowFaults
  dsimp only
  split
  · split
    · obtain ⟨_, _, h⟩ := both { s with draws := s.draws + 1 }
      exact ⟨_, _, _, h⟩
    · obtain ⟨_, _, h⟩ := raiseCuts_frame { s with draws := s.draws + 1 } m
      obtain ⟨_, _, hl⟩ := raiseClip_frame (raiseCuts m { s with draws := s.draws + 1 }) l
      rw [hl, h]
      exact ⟨_, _, _, rfl⟩
  · obtain ⟨_, _, h⟩ := both s
    exact ⟨_, _, _, h⟩

theorem surveyTrigger_frame (k : Trigger) : ∃ triggerPending,
    surveyTrigger k s = { s with svu := { s.svu with triggerPending := triggerPending } } := by
  rcases surveyTrigger_cases k s with h | ⟨_, _, _, _, _, h⟩ <;> exact ⟨_, h⟩

theorem swap_frame : ∃ triggerPending, swap s = { s with
    scc := s.scc.swapped
    tpe := s.tpe.reload (s.tables.bank s.scc.active.other)
    lines := if tailClear (s.tables.bank s.scc.active.other).header then clearBusLines s.lines else s.lines
    svu := { s.svu with triggerPending := triggerPending } } := surveyTrigger_frame _ _

theorem settleSwap_frame : ∃ scc tpe lines triggerPending, settleSwap s = { s with
    scc := scc, tpe := tpe, lines := lines, svu := { s.svu with triggerPending := triggerPending } } := by
  rcases settleSwap_cases s with ⟨_, _, h⟩ | ⟨_, h⟩
  · obtain ⟨_, hs⟩ := swap_frame s
    exact ⟨_, _, _, _, h.trans hs⟩
  · exact ⟨_, _, _, _, h⟩

theorem sceneWindowEnd_frame : ∃ scc tpe lines triggerPending, sceneWindowEnd s = { s with
    scc := scc, tpe := tpe, lines := lines, svu := { s.svu with triggerPending := triggerPending } } := by
  obtain ⟨_, hs⟩ := swap_frame s
  rcases sceneWindowEnd_cases s with h | ⟨_, _, h⟩ | ⟨_, _, h⟩ | ⟨_, h⟩ | ⟨_, _, _, h⟩ <;> rw [h]
  · exact ⟨_, _, _, _, rfl⟩
  · rcases reachZero_cases s with ⟨_, h⟩ | ⟨_, h⟩ | ⟨_, h⟩ <;> rw [h]
    · rw [hs]
      exact ⟨_, _, _, _, rfl⟩
    · rw [hs]
      exact ⟨_, _, _, _, rfl⟩
    · exact ⟨_, _, _, _, rfl⟩
  all_goals exact ⟨_, _, _, _, rfl⟩

/-- The state that the scene's window-end step finds. -/
def beforeScene : State :=
  surveyWindowEnd (windowChannels s)
    (raiseWindowFaults (clippedBuses s) (s.sgd.runDetectors s.ios.conditioned).cuts
      (guardWindowEnd (finishOutputs (busStage (busSamples s) (tapWindowEnd s)))))

theorem endBlocks_eq : endBlocks s = sceneWindowEnd (beforeScene s) := rfl

/-- The survey at a window end reads itself and its table alone. -/
theorem surveyWindowEnd_congr (x : Channels) {u : State} (hsvu : u.svu = s.svu)
    (hresults : u.tables.results = s.tables.results) :
    surveyWindowEnd x u = { u with
      svu := (surveyWindowEnd x s).svu
      tables := { u.tables with results := (surveyWindowEnd x s).tables.results } } := by
  unfold surveyWindowEnd finishLevel finishDecay putResult
  rw [hsvu]
  dsimp only
  (repeat' split) <;> simp only [← hsvu, ← hresults]

/-- The fault record after a fault comes of the record before it and the number of the frame last sent. -/
theorem raise_cmu_congr (k : FaultKind) (d : Nat) {u v : State} (hcmu : u.cmu = v.cmu) (hrtx : u.rtx = v.rtx) :
    (raise k d u).cmu = (raise k d v).cmu := by
  simp only [raise, raiseAt, hcmu, hrtx]
  split <;> rfl

theorem raiseClip_cmu_congr (l : List (Fin 16)) {u v : State} (hcmu : u.cmu = v.cmu) (hrtx : u.rtx = v.rtx) :
    (raiseClip l u).cmu = (raiseClip l v).cmu := by
  cases l with
  | nil => exact hcmu
  | cons b l => exact raise_cmu_congr _ _ hcmu hrtx

theorem raiseCuts_cmu_congr (l : List (Fin 8)) {u v : State} (hcmu : u.cmu = v.cmu) (hrtx : u.rtx = v.rtx) :
    (raiseCuts l u).cmu = (raiseCuts l v).cmu := by
  unfold raiseCuts
  induction l generalizing u v with
  | nil => exact hcmu
  | cons g l ih => exact ih (raise_cmu_congr _ _ hcmu hrtx) (by simp [hrtx])

@[simp] theorem raiseClip_rtx (l : List (Fin 16)) : (raiseClip l s).rtx = s.rtx := by
  obtain ⟨_, _, h⟩ := raiseClip_frame s l
  rw [h]

@[simp] theorem raiseCuts_rtx (l : List (Fin 8)) : (raiseCuts l s).rtx = s.rtx := by
  obtain ⟨_, _, h⟩ := raiseCuts_frame s l
  rw [h]

theorem raiseWindowFaults_cmu_congr (l : List (Fin 16)) (m : List (Fin 8)) {u v : State} (hcmu : u.cmu = v.cmu)
    (hrtx : u.rtx = v.rtx) (hdraws : u.draws = v.draws) :
    (raiseWindowFaults l m u).cmu = (raiseWindowFaults l m v).cmu := by
  unfold raiseWindowFaults
  rw [hdraws]
  dsimp only
  split
  · split
    · exact raiseCuts_cmu_congr m (raiseClip_cmu_congr l hcmu hrtx) (by simpa using hrtx)
    · exact raiseClip_cmu_congr l (raiseCuts_cmu_congr m hcmu hrtx) (by simpa using hrtx)
  · exact raiseCuts_cmu_congr m (raiseClip_cmu_congr l hcmu hrtx) (by simpa using hrtx)

/-- Each block's part of a window end, up to the scene's step, is its own. -/
theorem beforeScene_eq : ∃ draws, beforeScene s = { s with
    lines := (busStage (busSamples s) (tapWindowEnd s)).lines
    dmc := (busStage (busSamples s) (tapWindowEnd s)).dmc
    memory := (busStage (busSamples s) (tapWindowEnd s)).memory
    tpe := (tapWindowEnd s).tpe
    ios := (finishOutputs s).ios
    sgd := (guardWindowEnd s).sgd
    cmu := (raiseWindowFaults (clippedBuses s) (s.sgd.runDetectors s.ios.conditioned).cuts
      { s with draws := (busStage (busSamples s) (tapWindowEnd s)).draws }).cmu
    svu := (surveyWindowEnd (windowChannels s) s).svu
    tables := { s.tables with results := (surveyWindowEnd (windowChannels s) s).tables.results }
    draws := draws } := by
  obtain ⟨lines, openRow, direction, spend, memory, draws, hbus⟩ := busStage_frame (tapWindowEnd s) (busSamples s)
  unfold beforeScene
  rw [hbus]
  generalize hu : guardWindowEnd _ = u
  have hcmu := raiseWindowFaults_cmu_congr (clippedBuses s) (s.sgd.runDetectors s.ios.conditioned).cuts
    (u := u) (v := { s with draws := draws }) (by rw [← hu]; rfl) (by rw [← hu]; rfl) (by rw [← hu]; rfl)
  obtain ⟨d, fault, laterCount, hfaults⟩ := raiseWindowFaults_frame u (clippedBuses s)
    (s.sgd.runDetectors s.ios.conditioned).cuts
  rw [surveyWindowEnd_congr s (windowChannels s) (by rw [hfaults, ← hu]; rfl) (by rw [hfaults, ← hu]; rfl), ← hcmu,
    hfaults, ← hu]
  exact ⟨_, rfl⟩

/-! ### The window that ends -/

/-- A window end leaves the ring, the loader, the bank and system tables, the queue of commands and the holding of the
delay memory as they are, and of the Command Unit it changes the fault record alone. -/
theorem endWindow_frame : ∃ results lines openRow direction spend memory tpe ios scc sgd svu fault laterCount draws,
    endWindow s = { s with
      tables := { s.tables with results := results }, lines := lines
      dmc := { s.dmc with openRow := openRow, direction := direction, spend := spend }, memory := memory
      tpe := tpe, ios := ios, scc := scc, sgd := sgd, svu := svu
      cmu := { s.cmu with fault := fault, laterCount := laterCount }, inWindow := false, draws := draws } := by
  rcases endWindow_cases s with ⟨_, h⟩ | ⟨hw, h⟩
  · obtain ⟨_, hbefore⟩ := beforeScene_eq s
    obtain ⟨_, _, _, _, _, _, hbus⟩ := busStage_frame (tapWindowEnd s) (busSamples s)
    obtain ⟨_, _, _, hcmu⟩ := raiseWindowFaults_frame
      { s with draws := (busStage (busSamples s) (tapWindowEnd s)).draws } (clippedBuses s)
      (s.sgd.runDetectors s.ios.conditioned).cuts
    obtain ⟨_, _, _, _, hscene⟩ := sceneWindowEnd_frame (beforeScene s)
    obtain ⟨_, _, _, _, hsettle⟩ := settleSwap_frame { endBlocks s with inWindow := false }
    rw [hcmu, hbus] at hbefore
    rw [h, hsettle, endBlocks_eq, hscene, hbefore]
    exact ⟨_, _, _, _, _, _, _, _, _, _, _, _, _, _, rfl⟩
  · rw [h]
    exact ⟨_, _, _, _, _, _, _, _, _, _, _, _, _, _, by rw [← hw]⟩

@[simp] theorem endWindow_rrx : (endWindow s).rrx = s.rrx := by
  obtain ⟨_, _, _, _, _, _, _, _, _, _, _, _, _, _, h⟩ := endWindow_frame s
  rw [h]

@[simp] theorem endWindow_rtx : (endWindow s).rtx = s.rtx := by
  obtain ⟨_, _, _, _, _, _, _, _, _, _, _, _, _, _, h⟩ := endWindow_frame s
  rw [h]

@[simp] theorem endWindow_tld : (endWindow s).tld = s.tld := by
  obtain ⟨_, _, _, _, _, _, _, _, _, _, _, _, _, _, h⟩ := endWindow_frame s
  rw [h]

@[simp] theorem endWindow_lapse : (endWindow s).lapse = s.lapse := by
  obtain ⟨_, _, _, _, _, _, _, _, _, _, _, _, _, _, h⟩ := endWindow_frame s
  rw [h]

@[simp] theorem endWindow_pending : (endWindow s).pending = s.pending := by
  obtain ⟨_, _, _, _, _, _, _, _, _, _, _, _, _, _, h⟩ := endWindow_frame s
  rw [h]

@[simp] theorem endWindow_inWindow : (endWindow s).inWindow = false := by
  obtain ⟨_, _, _, _, _, _, _, _, _, _, _, _, _, _, h⟩ := endWindow_frame s
  rw [h]

end Sys2Proof.Machine
end

section
/-! What a message does beyond the Command Unit: the action of its command, and the swap that an accepted COMMIT makes
between windows. The Command Unit judges and answers; the rest of the state is the command's own. -/

namespace Sys2Proof.Machine

variable (s : State)

/-- A command's own action, with the swap that an accepted COMMIT makes at once where no window runs (R76). -/
def Command.effect (c : Command) (args : List Word) (s : State) : State :=
  if c = .commit ∧ (c.run args s).status = .ok then settleSwap (c.run args s).after else (c.run args s).after

/-! ### The Command Unit around a command -/

theorem answer_frame (via : Addressee) (code : Nat) (v : Verdict) : ∃ k, answer via code v = { v.after with cmu := k } := by
  cases via with
  | broadcast => exact ⟨_, rfl⟩
  | addressed =>
    unfold answer formReply
    dsimp only
    split <;> exact ⟨_, rfl⟩

theorem surveyTrigger_withCmu (t : Trigger) (k : Cmu) :
    surveyTrigger t { s with cmu := k } = { surveyTrigger t s with cmu := k } := by
  unfold surveyTrigger
  dsimp only
  (repeat' split) <;> rfl

theorem swap_withCmu (k : Cmu) : swap { s with cmu := k } = { swap s with cmu := k } :=
  surveyTrigger_withCmu
    { s with
      scc := s.scc.swapped
      tpe := s.tpe.reload (s.tables.bank s.scc.active.other)
      lines := if tailClear (s.tables.bank s.scc.active.other).header then clearBusLines s.lines else s.lines }
    .swap k

theorem settleSwap_withCmu (k : Cmu) : settleSwap { s with cmu := k } = { settleSwap s with cmu := k } := by
  unfold settleSwap
  dsimp only
  split
  · exact swap_withCmu s k
  · rfl

/-- Beside the Command Unit, a known command has its effect, or none where it is discarded or refused for its count. -/
theorem takeCommand_frame (via : Addressee) (c : Command) (args : List Word) :
    ∃ k, takeCommand via c args s = { s with cmu := k } ∨
      (c.accepts args = true ∧ takeCommand via c args s = { c.effect args s with cmu := k }) := by
  unfold takeCommand
  split
  · exact ⟨_, .inl rfl⟩
  · split
    · obtain ⟨k, h⟩ := answer_frame via c.code (refuse .length s)
      exact ⟨k, .inl h⟩
    · next hacc =>
      obtain ⟨k, h⟩ := answer_frame via c.code (c.run args s)
      have hacc : c.accepts args = true := by simpa using hacc
      dsimp only
      rw [h]
      unfold Command.effect Command.afterReply
      cases c with
      | status =>
        by_cases hok : (Command.status.run args s).status = .ok
        · exact ⟨{ k with shedNote := false }, .inr ⟨hacc, by simp [hok]⟩⟩
        · exact ⟨k, .inr ⟨hacc, by simp [hok]⟩⟩
      | commit =>
        by_cases hok : (Command.commit.run args s).status = .ok
        · exact ⟨k, .inr ⟨hacc, by simp [hok, settleSwap_withCmu]⟩⟩
        · exact ⟨k, .inr ⟨hacc, by simp [hok]⟩⟩
      | _ => exact ⟨k, .inr ⟨hacc, by simp⟩⟩

theorem completeMessage_frame (via : Addressee) :
    ∃ k, completeMessage via s = { s with cmu := k } ∨
      ∃ (c : Command) (args : List Word), c.accepts args = true ∧
        completeMessage via s = { c.effect args s with cmu := k } := by
  unfold completeMessage
  dsimp only
  split
  · obtain ⟨k, h⟩ := answer_frame via _ (refuse .damaged { s with cmu := { s.cmu with
      damagedCount := saturate s.cmu.damagedCount 1 } })
    exact ⟨k, .inl h⟩
  · split
    · obtain ⟨k, h⟩ := answer_frame via _ (refuse .length s)
      exact ⟨k, .inl h⟩
    · split
      · obtain ⟨k, h⟩ := answer_frame via _ (refuse .length s)
        exact ⟨k, .inl h⟩
      · split
        · obtain ⟨k, h⟩ := answer_frame via _ (refuse .unknown s)
          exact ⟨k, .inl h⟩
        · next c _ =>
          obtain ⟨k, h | ⟨hacc, h⟩⟩ := takeCommand_frame s via c _
          · exact ⟨k, .inl h⟩
          · exact ⟨k, .inr ⟨c, _, hacc, h⟩⟩

/-- A SELECT reaches the Command Unit alone. -/
theorem selectCell_frame (w : Word) : ∃ k, selectCell w s = { s with cmu := k } := by
  unfold selectCell
  rcases discardAssembly_cases s with ⟨_, h⟩ | ⟨_, h⟩ <;> rw [h] <;> (repeat' split) <;> exact ⟨_, rfl⟩

/-- A WORD reaches the Command Unit alone. -/
theorem wordCell_frame (w : Word) : ∃ k, wordCell w s = { s with cmu := k } := by
  unfold wordCell
  (repeat' split) <;> exact ⟨_, rfl⟩

theorem wordCells_frame (ws : List Word) : ∃ k, ws.foldl (fun t w => wordCell w t) s = { s with cmu := k } := by
  induction ws generalizing s with
  | nil => exact ⟨_, rfl⟩
  | cons w ws ih =>
    obtain ⟨_, h⟩ := wordCell_frame s w
    obtain ⟨k, hk⟩ := ih (wordCell w s)
    exact ⟨k, by rw [List.foldl_cons, hk, h]⟩

/-! ### What every command keeps, a message keeps -/

/-- A property that says nothing of the Command Unit and that every command keeps. -/
structure KeptByCommands (P : State → Prop) : Prop where
  cmu : ∀ s k, P s → P { s with cmu := k }
  effect : ∀ (c : Command) (args : List Word) (s : State), c.accepts args = true → P s → P (c.effect args s)

variable {s} {P : State → Prop}

theorem KeptByCommands.endCell (hP : KeptByCommands P) (h : P s) : P (endCell s) := by
  unfold Machine.endCell
  split
  · exact h
  · next via _ =>
    obtain ⟨k, hk | ⟨c, args, hacc, hk⟩⟩ :=
      completeMessage_frame { s with cmu := { s.cmu with assembly := none } } via
    · rw [hk]
      exact hP.cmu s _ h
    · rw [hk]
      exact hP.cmu _ _ (hP.effect c args _ hacc (hP.cmu _ _ h))

theorem KeptByCommands.takeCell (hP : KeptByCommands P) (kind : BitVec 4) (w : Word) (h : P s) :
    P (takeCell kind w s) := by
  rcases takeCell_cases kind w s with ⟨_, e⟩ | ⟨_, e⟩ | ⟨_, e⟩ | e <;> rw [e]
  · obtain ⟨k, e⟩ := selectCell_frame s w
    exact e ▸ hP.cmu s k h
  · obtain ⟨k, e⟩ := wordCell_frame s w
    exact e ▸ hP.cmu s k h
  · exact hP.endCell h
  · exact h

theorem KeptByCommands.takeMessage (hP : KeptByCommands P) (via : Addressee) (c : Command) (args : List Word)
    (h : P s) : P (takeMessage via c args s) := by
  unfold Machine.takeMessage
  split
  · split
    · exact h
    · next a _ =>
      obtain ⟨k, e⟩ := selectCell_frame s a
      obtain ⟨l, f⟩ := wordCells_frame (selectCell a s) (headerWord c args :: args)
      rw [f, e]
      exact hP.endCell (hP.cmu s l h)
  · exact h

end Sys2Proof.Machine
end

section
/-! What a command can do, said once: the acts that a judged command can come to, with what its judgement has found. -/

namespace Sys2Proof.Machine

/-- The moves of the scene by COMMIT, CANCEL, HUSH and RESUME, but for the swap that a COMMIT in HELD makes due
(R79, R81, R83, R84). -/
inductive SceneMove (s : State) : Scc → Prop
  | commitNow : s.tld.isOpen = false → s.scc.swapDue = false → s.scc.scene = .steady → SceneMove s { s.scc with
      scene := .fadeOut, ramp := activeRamp s, target := some .swapFadeIn, shadowLocked := true }
  | commitAtMark : s.tld.isOpen = false → s.scc.swapDue = false → s.scc.scene = .steady →
      SceneMove s { s.scc with scene := .armed, shadowLocked := true }
  | cancelArmed : s.scc.scene = .armed → SceneMove s { s.scc with scene := .steady, shadowLocked := false }
  | cancelFade : s.scc.scene = .fadeOut → s.scc.target = some .swapFadeIn ∨ s.scc.target = some .swapHold →
      SceneMove s { s.scc with scene := .fadeIn, target := none, shadowLocked := false }
  | hushSteady : s.scc.scene = .steady →
      SceneMove s { s.scc with scene := .fadeOut, ramp := activeRamp s, target := some .hold }
  | hushArmed : s.scc.scene = .armed → SceneMove s { s.scc with
      scene := .fadeOut, ramp := activeRamp s, target := some .hold, shadowLocked := false }
  | hushSwap : s.scc.scene = .fadeOut → s.scc.target = some .swapFadeIn →
      SceneMove s { s.scc with target := some .swapHold }
  | hushFadeIn : s.scc.scene = .fadeIn → SceneMove s { s.scc with scene := .fadeOut, target := some .hold }
  | resumeHeld : s.scc.scene = .held → SceneMove s { s.scc with scene := .fadeIn, ramp := 0 }
  | resumeHold : s.scc.scene = .fadeOut → s.scc.target = some .hold →
      SceneMove s { s.scc with scene := .fadeIn, target := none }
  | resumeSwap : s.scc.scene = .fadeOut → s.scc.target = some .swapHold →
      SceneMove s { s.scc with target := some .swapFadeIn }

/-- What a command that has been judged can do to the state. -/
inductive Acts (s : State) : State → Prop
  /-- Nothing: a refusal, or READ. -/
  | nothing : Acts s s
  /-- FAULT-CLEAR and RESTART reach the Command Unit alone. -/
  | unit (k : Cmu) : Acts s { s with cmu := k }
  /-- STATUS with its clear argument at 1 (R171). -/
  | zeroed : Acts s (zeroCounters s)
  /-- An accepted WRITE (R183, R184). -/
  | stored (id start : Nat) (entries : List (List Word)) (hid : id < 10)
      (hbank : id ≤ 2 → s.scc.shadowLocked = false ∧ s.tld.isOpen = false)
      (hfits : start + entries.length ≤ (tableEntries id).getD 0)
      (hgood : ∀ j < entries.length,
        badEntry (s.tables.storeRun (shadowName s) id start entries) start entries.length id (start + j) = false) :
      Acts s { s with tables := s.tables.storeRun (shadowName s) id start entries }
  /-- An accepted LOAD-OPEN (R186). -/
  | opened (table : BankTable) (direction : Direction) (start count timeout : Nat) (hclosed : s.tld.isOpen = false)
      (hlock : s.scc.shadowLocked = false) (htimeout : timeout ≠ 0) (hcount : count ≠ 0)
      (hrun : runLeaves direction start count table.entries = false) :
      Acts s { s with tld := {
        isOpen := true, bank := shadowName s, table := table, next := start, remaining := count - 1
        direction := direction, partialWords := [], timeout := timeout, idle := some 0 } }
  /-- An accepted LOAD-DATA (R187). -/
  | loaded (args : List Word) (hopen : s.tld.isOpen = true) :
      Acts s (args.foldl loadWord ({ s with tld := { s.tld with idle := some 0 } }, 0)).1
  /-- LOAD-CLOSE in OPEN (R190). -/
  | closed (hopen : s.tld.isOpen = true) : Acts s { s with tld := s.tld.closed }
  /-- A scene command (R79, R81, R83, R84). -/
  | moved (scc : Scc) (hmove : SceneMove s scc) : Acts s { s with scc := scc }
  /-- COMMIT in HELD: the swap is due, and is made at once between windows (R76, R80). -/
  | due (hopen : s.tld.isOpen = false) (hdue : s.scc.swapDue = false) (hscene : s.scc.scene = .held) :
      Acts s (settleSwap { s with scc := { s.scc with shadowLocked := true, swapDue := true } })
  /-- GUARD-CLEAR (R110). -/
  | guarded (detectors : BitVec 24) (groups : BitVec 8) :
      Acts s { s with sgd := { s.sgd with clearDetectors := detectors, clearGroups := groups } }
  /-- An accepted SURVEY-START (R195). -/
  | surveyed (c : SurveyConfig) (args : List Word) (hc : surveyConfigOf args = some c) : Acts s { s with svu :=
      { s.svu.emptied with state := .waiting, config := none, startPending := some c, triggerPending := false } }
  /-- SURVEY-STOP (R196). -/
  | stopped : Acts s { s with svu :=
      { s.svu.emptied with state := .idle, config := none, startPending := none, triggerPending := false } }

variable (s : State) (args : List Word)

theorem takeStatus_acts : Acts s (takeStatus args s).after := by
  unfold takeStatus
  split
  · exact .nothing
  · exact .zeroed
  · exact .nothing

theorem takeRead_acts : Acts s (takeRead args s).after := by
  unfold takeRead
  dsimp only
  (repeat' split) <;> exact .nothing

theorem takeWrite_acts : Acts s (takeWrite args s).after := by
  unfold takeWrite
  dsimp only
  split
  · exact .nothing
  · next hid =>
    split
    · exact .nothing
    · split
      · exact .nothing
      · next hlock =>
        split
        · exact .nothing
        · next hload =>
          split
          · exact .nothing
          · next hfits =>
            split
            · exact .nothing
            · next hgood =>
              refine .stored _ _ _ (by omega) (fun h => ?_) (by omega) (fun j hj => ?_)
              · exact ⟨by simpa [h] using hlock, by simpa [h] using hload⟩
              · simpa using List.find?_eq_none.1 hgood j (List.mem_range.2 hj)

theorem tableEntries_of_bankTable {id : Nat} {table : BankTable} (h : bankTableOf id = some table) :
    tableEntries id = some table.entries := by
  unfold bankTableOf at h
  split at h <;> cases h <;> rfl

theorem takeLoadOpen_acts : Acts s (takeLoadOpen args s).after := by
  unfold takeLoadOpen
  dsimp only
  split
  · exact .nothing
  · next hopen =>
    split
    · exact .nothing
    · split
      · exact .nothing
      · next hlock =>
        split
        · next table direction htable _ =>
          rw [tableEntries_of_bankTable htable]
          split
          · exact .nothing
          · next hrange =>
            obtain ⟨htimeout, hcount, _, hrun⟩ : argTimeout (argAt args 1) ≠ 0 ∧ argCount (argAt args 1) ≠ 0 ∧
                ¬1024 < argCount (argAt args 1) ∧
                ¬runLeaves direction (argStart (argAt args 0)) (argCount (argAt args 1)) table.entries = true := by
              simpa only [not_or, Option.getD_some] using hrange
            exact .opened _ _ _ _ _ (by simpa using hopen) (by simpa using hlock) htimeout hcount (by simpa using hrun)
        · exact .nothing
        · exact .nothing

theorem takeLoadData_acts : Acts s (takeLoadData args s).after := by
  unfold takeLoadData
  split
  · next hopen => exact .loaded args hopen
  · exact .nothing

theorem takeLoadClose_acts : Acts s (takeLoadClose args s).after := by
  unfold takeLoadClose
  dsimp only
  split
  · next hopen => exact .closed hopen
  · exact .nothing

/-- COMMIT is refused, moves the scene out of STEADY, or makes a swap due in HELD. -/
theorem takeCommit_cases :
    (∃ status, status ≠ .ok ∧ takeCommit args s = refuse status s) ∨
    (∃ scc, SceneMove s scc ∧ scc.swapDue = false ∧ takeCommit args s = accept { s with scc := scc }) ∨
    (s.tld.isOpen = false ∧ s.scc.swapDue = false ∧ s.scc.scene = .held ∧
      takeCommit args s = accept { s with scc := { s.scc with shadowLocked := true, swapDue := true } }) := by
  unfold takeCommit
  split
  · exact .inl ⟨_, by decide, rfl⟩
  · next hopen =>
    have hopen : s.tld.isOpen = false := by simpa using hopen
    split
    · exact .inl ⟨_, by decide, rfl⟩
    · next hdue =>
      have hdue : s.scc.swapDue = false := by simpa using hdue
      split
      · exact .inl ⟨_, by decide, rfl⟩
      · exact .inl ⟨_, by decide, rfl⟩
      · exact .inl ⟨_, by decide, rfl⟩
      · next hscene =>
        split
        · exact .inl ⟨_, by decide, rfl⟩
        · exact .inr (.inr ⟨hopen, hdue, hscene, rfl⟩)
      · next hscene =>
        split
        · exact .inr (.inl ⟨_, .commitNow hopen hdue hscene, hdue, rfl⟩)
        · exact .inr (.inl ⟨_, .commitAtMark hopen hdue hscene, hdue, rfl⟩)
        · exact .inl ⟨_, by decide, rfl⟩

theorem commit_acts : Acts s (Command.commit.effect args s) := by
  unfold Command.effect Command.run
  rcases takeCommit_cases s args with ⟨_, hstatus, e⟩ | ⟨scc, hmove, hdue, e⟩ | ⟨hopen, hdue, hscene, e⟩
  · simp only [e, refuse, hstatus, and_false, if_false]
    exact .nothing
  · have hstay : settleSwap { s with scc := scc } = { s with scc := scc } := by simp [settleSwap, hdue]
    simp only [e, accept, and_self, if_true, hstay]
    exact .moved scc hmove
  · simp only [e, accept, and_self, if_true]
    exact .due hopen hdue hscene

theorem takeCancel_acts : Acts s (takeCancel args s).after := by
  unfold takeCancel
  split
  case h_1 hscene => exact .moved _ (.cancelArmed hscene)
  case h_2 hscene htarget => exact .moved _ (.cancelFade hscene (.inl htarget))
  case h_3 hscene htarget => exact .moved _ (.cancelFade hscene (.inr htarget))
  all_goals exact .nothing

theorem takeHush_acts : Acts s (takeHush args s).after := by
  unfold takeHush
  split
  case h_1 hscene => exact .moved _ (.hushSteady hscene)
  case h_2 hscene => exact .moved _ (.hushArmed hscene)
  case h_3 hscene htarget => exact .moved _ (.hushSwap hscene htarget)
  case h_8 hscene => exact .moved _ (.hushFadeIn hscene)
  all_goals exact .nothing

theorem takeResume_acts : Acts s (takeResume args s).after := by
  unfold takeResume
  split
  case h_1 hscene => exact .moved _ (.resumeHeld hscene)
  case h_2 hscene htarget => exact .moved _ (.resumeHold hscene htarget)
  case h_3 hscene htarget => exact .moved _ (.resumeSwap hscene htarget)
  all_goals exact .nothing

theorem takeSurveyStart_acts : Acts s (takeSurveyStart args s).after := by
  unfold takeSurveyStart
  split
  · exact .nothing
  · next c hc => exact .surveyed c args hc

/-- Every command comes to one of the acts. -/
theorem effect_acts (c : Command) : Acts s (c.effect args s) := by
  cases c
  case commit => exact commit_acts s args
  all_goals
    rw [Command.effect, if_neg (by simp)]
  case status => exact takeStatus_acts s args
  case read => exact takeRead_acts s args
  case write => exact takeWrite_acts s args
  case loadOpen => exact takeLoadOpen_acts s args
  case loadData => exact takeLoadData_acts s args
  case loadClose => exact takeLoadClose_acts s args
  case cancel => exact takeCancel_acts s args
  case hush => exact takeHush_acts s args
  case resume => exact takeResume_acts s args
  case guardClear => exact .guarded _ _
  case surveyStart => exact takeSurveyStart_acts s args
  case surveyStop => exact .stopped
  case faultClear => exact .unit _
  case restart => exact .unit _

/-! ### What the acts leave as it was -/

/-- The tables with other banks. -/
def Tables.withBanks (t : Tables) (a b : SceneBank) : Tables := { t with bankA := a, bankB := b }

theorem putBank_withBanks (t : Tables) (n : BankName) (x : SceneBank) : ∃ a b, t.putBank n x = t.withBanks a b := by
  cases n <;> exact ⟨_, _, rfl⟩

/-- A run of bank updates leaves the system tables. -/
theorem foldl_putBank_withBanks (t : Tables) (n : BankName) (x : Tables → Nat → SceneBank) (l : List Nat) :
    ∃ a b, l.foldl (fun u i => u.putBank n (x u i)) t = t.withBanks a b := by
  induction l generalizing t with
  | nil => exact ⟨_, _, rfl⟩
  | cons i l ih =>
    obtain ⟨_, _, h⟩ := putBank_withBanks t n (x t i)
    obtain ⟨_, _, hl⟩ := ih (t.putBank n (x t i))
    rw [List.foldl_cons, hl, h]
    exact ⟨_, _, rfl⟩

theorem completeEntry_frame (e : Triple) (s : State) : ∃ a b tld,
    completeEntry e s = { s with tables := s.tables.withBanks a b, tld := tld } := by
  unfold completeEntry
  dsimp only
  split
  · obtain ⟨_, _, h⟩ := foldl_putBank_withBanks s.tables s.tld.bank
      (fun t j => (t.bank s.tld.bank).store s.tld.table (s.tld.next + j) e) (List.range (s.tld.remaining + 1))
    rw [h]
    exact ⟨_, _, _, rfl⟩
  all_goals
    obtain ⟨_, _, h⟩ := putBank_withBanks s.tables s.tld.bank
      ((s.tables.bank s.tld.bank).store s.tld.table s.tld.next e)
    rw [h]
    exact ⟨_, _, _, rfl⟩

theorem loadWord_frame (r : State × Nat) (w : Word) : ∃ a b tld n,
    loadWord r w = ({ r.1 with tables := r.1.tables.withBanks a b, tld := tld }, n) := by
  unfold loadWord
  dsimp only
  split
  · split
    · exact ⟨r.1.tables.bankA, r.1.tables.bankB, _, _, rfl⟩
    · obtain ⟨_, _, _, h⟩ := completeEntry_frame (tripleOf (r.1.tld.partialWords ++ [w])) r.1
      rw [h]
      exact ⟨_, _, _, _, rfl⟩
  · exact ⟨r.1.tables.bankA, r.1.tables.bankB, _, _, rfl⟩

/-- The words of a load change the banks and the loader alone. -/
theorem loadWords_frame (ws : List Word) (r : State × Nat) : ∃ a b tld n,
    ws.foldl loadWord r = ({ r.1 with tables := r.1.tables.withBanks a b, tld := tld }, n) := by
  induction ws generalizing r with
  | nil => exact ⟨r.1.tables.bankA, r.1.tables.bankB, _, _, rfl⟩
  | cons w ws ih =>
    obtain ⟨_, _, _, _, h⟩ := loadWord_frame r w
    obtain ⟨_, _, _, _, hws⟩ := ih (loadWord r w)
    rw [List.foldl_cons, hws, h]
    exact ⟨_, _, _, _, rfl⟩

variable {s} {t : State}

/-- No command reaches the transmitter, the delay memory, the output queue, or the queue of commands, and of the
receiver, the memory controller and the stages a command reaches the counters of events alone. -/
theorem Acts.frame (h : Acts s t) : ∃ badFrames missingFrames slips lockLosses cmu tables tld lines shedWorst
    shedWindows refreshOverruns tpe outClips scc sgd svu, t = { s with
      rrx := { s.rrx with
        badFrames := badFrames, missingFrames := missingFrames, slips := slips, lockLosses := lockLosses }
      cmu := cmu, tables := tables, tld := tld, lines := lines
      dmc := { s.dmc with
        shedWorst := shedWorst, shedWindows := shedWindows, refreshOverruns := refreshOverruns }
      tpe := tpe, ios := { s.ios with outClips := outClips }, scc := scc, sgd := sgd, svu := svu } := by
  cases h with
  | loaded args _ =>
    obtain ⟨_, _, _, _, e⟩ := loadWords_frame args ({ s with tld := { s.tld with idle := some 0 } }, 0)
    rw [e]
    exact ⟨_, _, _, _, _, _, _, _, _, _, _, _, _, _, _, _, rfl⟩
  | due =>
    obtain ⟨_, _, _, _, e⟩ := settleSwap_frame { s with scc := { s.scc with shadowLocked := true, swapDue := true } }
    rw [e]
    exact ⟨_, _, _, _, _, _, _, _, _, _, _, _, _, _, _, _, rfl⟩
  | _ => exact ⟨_, _, _, _, _, _, _, _, _, _, _, _, _, _, _, _, rfl⟩

end Sys2Proof.Machine
end

section
/-! The window that an event opens, in its parts: the window start, the stages up to the end of the tap pass, and the
deliveries. What an event, the frame sent and the idle timer change beside their own blocks is said here once. -/

namespace Sys2Proof.Machine

variable (s : State)

/-! ### Before the window start -/

theorem expireLoad_frame (n : BitVec 8) : ∃ fault laterCount, expireLoad n s = { s with
    tld := s.tld.closed, cmu := { s.cmu with fault := fault, laterCount := laterCount } } := by
  rcases raiseAt_cases n .loadTimeout s.tld.table.id { s with tld := s.tld.closed } with ⟨_, h⟩ | ⟨_, h⟩ <;>
    exact ⟨_, _, h⟩

/-- A Command Unit whose notes, counters of messages but for the truncated, record and address are those of another. -/
def Cmu.SameNotes (k l : Cmu) : Prop := ∃ unit assembly replyBuffer headerHeld overrun truncated fault laterCount,
  k = { l with
    unit := unit, assembly := assembly, replyBuffer := replyBuffer, headerHeld := headerHeld, overrun := overrun
    truncated := truncated, fault := fault, laterCount := laterCount }

theorem Cmu.SameNotes.trans {k l m : Cmu} (h : k.SameNotes l) (g : l.SameNotes m) : k.SameNotes m := by
  obtain ⟨_, _, _, _, _, _, _, _, rfl⟩ := h
  obtain ⟨_, _, _, _, _, _, _, _, rfl⟩ := g
  exact ⟨_, _, _, _, _, _, _, _, rfl⟩

theorem Cmu.SameNotes.restartPending {k l : Cmu} (h : k.SameNotes l) : k.restartPending = l.restartPending := by
  obtain ⟨_, _, _, _, _, _, _, _, rfl⟩ := h
  rfl

theorem abandonTraffic_frame : ∃ k, k.SameNotes s.cmu ∧ abandonTraffic s = { s with cmu := k } := by
  unfold abandonTraffic
  rcases discardAssembly_cases s with ⟨_, h⟩ | ⟨_, h⟩ <;> rw [h] <;> exact ⟨_, ⟨_, _, _, _, _, _, _, _, rfl⟩, rfl⟩

/-- Beside the receiver, an event reaches the Command Unit alone. -/
theorem takeEvent_frame (j : Taken) : ∃ k, k.SameNotes s.cmu ∧ takeEvent j s = { s with rrx := j.rrx, cmu := k } := by
  unfold takeEvent
  dsimp only
  obtain ⟨_, _, hraise⟩ := raise_frame { s with rrx := j.rrx } .lockLost 0
  have hlost : ∃ k, k.SameNotes s.cmu ∧
      (if j.lost then raise .lockLost 0 { s with rrx := j.rrx } else { s with rrx := j.rrx }) =
        { s with rrx := j.rrx, cmu := k } := by
    split
    · exact ⟨_, ⟨_, _, _, _, _, _, _, _, rfl⟩, hraise⟩
    · exact ⟨_, ⟨_, _, _, _, _, _, _, _, rfl⟩, rfl⟩
  obtain ⟨k, hk, hlost⟩ := hlost
  rw [hlost]
  split
  · obtain ⟨l, hl, h⟩ := abandonTraffic_frame { s with rrx := j.rrx, cmu := k }
    exact ⟨l, hl.trans hk, h⟩
  · exact ⟨k, hk, rfl⟩

theorem handBad_frame : ∃ k, handBad s = { s with cmu := k } := by
  unfold handBad
  rw [damageMessage_eq]
  split <;> exact ⟨_, rfl⟩

/-! ### The window start -/

variable (time : Nat)

/-- The window start's own work, before the timing comes into force. -/
def startGeometry : State :=
  let a := takeGeometry { s with rrx := s.rrx.windowStart time s.tables.ringset }
  if s.cmu.restartPending then restartBlocks a else a

theorem startBlocks_eq : startBlocks time s =
    let a := startGeometry s time
    let b := memoryWindowStart time a
    { b with
      sgd := s.sgd.windowStart s.cmu.restartPending s.tables
      ios := s.ios.windowStart s.cmu.restartPending s.tables
      svu := s.svu.windowStart s.cmu.restartPending
      scc := { a.scc with windowState := a.scc.scene } } := by
  unfold startBlocks startGeometry
  cases h : s.cmu.restartPending <;> rfl

/-- What a RESTART that acts at the window start reaches: the lines, the Tap Engine, the row state, the scene, and
its own pending flag. -/
theorem startGeometry_frame : ∃ lines tpe openRow direction scc, startGeometry s time = { s with
    rrx := s.rrx.windowStart time s.tables.ringset, lines := lines, tpe := tpe
    dmc := { s.dmc with openRow := openRow, direction := direction }, scc := scc
    cmu := { s.cmu with restartPending := false } } := by
  unfold startGeometry
  cases h : s.cmu.restartPending
  · have hcmu : { s.cmu with restartPending := false } = s.cmu := by rw [← h]
    rw [hcmu]
    exact ⟨_, _, _, _, _, rfl⟩
  · exact ⟨_, _, _, _, _, rfl⟩

@[simp] theorem startBlocks_rrx : (startBlocks time s).rrx = s.rrx.windowStart time s.tables.ringset := by
  obtain ⟨_, _, _, _, _, h⟩ := startGeometry_frame s time
  simp [startBlocks_eq, h]
@[simp] theorem startBlocks_rtx : (startBlocks time s).rtx = s.rtx := by
  obtain ⟨_, _, _, _, _, h⟩ := startGeometry_frame s time
  simp [startBlocks_eq, h]
@[simp] theorem startBlocks_cmu : (startBlocks time s).cmu = { s.cmu with restartPending := false } := by
  obtain ⟨_, _, _, _, _, h⟩ := startGeometry_frame s time
  simp [startBlocks_eq, h]
@[simp] theorem startBlocks_tables : (startBlocks time s).tables = s.tables := by
  obtain ⟨_, _, _, _, _, h⟩ := startGeometry_frame s time
  simp [startBlocks_eq, h]
@[simp] theorem startBlocks_tld : (startBlocks time s).tld = s.tld := by
  obtain ⟨_, _, _, _, _, h⟩ := startGeometry_frame s time
  simp [startBlocks_eq, h]
@[simp] theorem startBlocks_memory : (startBlocks time s).memory = s.memory := by
  obtain ⟨_, _, _, _, _, h⟩ := startGeometry_frame s time
  simp [startBlocks_eq, h]
@[simp] theorem startBlocks_ios : (startBlocks time s).ios = s.ios.windowStart s.cmu.restartPending s.tables := by
  obtain ⟨_, _, _, _, _, h⟩ := startGeometry_frame s time
  simp [startBlocks_eq, h]
@[simp] theorem startBlocks_sgd : (startBlocks time s).sgd = s.sgd.windowStart s.cmu.restartPending s.tables := by
  obtain ⟨_, _, _, _, _, h⟩ := startGeometry_frame s time
  simp [startBlocks_eq, h]
@[simp] theorem startBlocks_svu : (startBlocks time s).svu = s.svu.windowStart s.cmu.restartPending := by
  obtain ⟨_, _, _, _, _, h⟩ := startGeometry_frame s time
  simp [startBlocks_eq, h]
@[simp] theorem startBlocks_inWindow : (startBlocks time s).inWindow = s.inWindow := by
  obtain ⟨_, _, _, _, _, h⟩ := startGeometry_frame s time
  simp [startBlocks_eq, h]
@[simp] theorem startBlocks_draws : (startBlocks time s).draws = s.draws := by
  obtain ⟨_, _, _, _, _, h⟩ := startGeometry_frame s time
  simp [startBlocks_eq, h]
@[simp] theorem startBlocks_pending : (startBlocks time s).pending = s.pending := by
  obtain ⟨_, _, _, _, _, h⟩ := startGeometry_frame s time
  simp [startBlocks_eq, h]

@[simp] theorem startBlocks_scc : (startBlocks time s).scc =
    if s.cmu.restartPending then s.scc.restarted else { s.scc with windowState := s.scc.scene } := by
  rw [startBlocks_eq, startGeometry]
  cases s.cmu.restartPending <;> rfl

/-- The stored geometry of a line comes into force, and a changed line is empty (R34, R41). -/
def startLine (t : Tables) (lines : Regs Line 40) (i : Fin 40) : Line :=
  if geometryChanged t lines i then ⟨baseOf (t.lines.get i), rowsOf (t.lines.get i), 0, 0⟩ else lines.get i

theorem startBlocks_lines_get (i : Fin 40) : (startBlocks time s).lines.get i =
    if s.cmu.restartPending then (startLine s.tables s.lines i).cleared else startLine s.tables s.lines i := by
  have hgeometry : (takeGeometry { s with rrx := s.rrx.windowStart time s.tables.ringset }).lines.get i =
      startLine s.tables s.lines i := Regs.get_tab _ i
  rw [startBlocks_eq, startGeometry]
  cases s.cmu.restartPending
  · exact hgeometry
  · exact (Regs.get_map _ _ i).trans (congrArg Line.cleared hgeometry)

@[simp] theorem startLine_base (t : Tables) (lines : Regs Line 40) (i : Fin 40) :
    (startLine t lines i).base = baseOf (t.lines.get i) := by
  unfold startLine geometryChanged
  split
  · rfl
  · next h =>
    have hsame : (lines.get i).base = baseOf (t.lines.get i) ∧ (lines.get i).rows = rowsOf (t.lines.get i) := by
      simpa using h
    exact hsame.1

@[simp] theorem startLine_rows (t : Tables) (lines : Regs Line 40) (i : Fin 40) :
    (startLine t lines i).rows = rowsOf (t.lines.get i) := by
  unfold startLine geometryChanged
  split
  · rfl
  · next h =>
    have hsame : (lines.get i).base = baseOf (t.lines.get i) ∧ (lines.get i).rows = rowsOf (t.lines.get i) := by
      simpa using h
    exact hsame.2

/-- The state right after the window start that an event brings, before its frame is sent. -/
def windowStart (time : Nat) (j : Taken) (s : State) : State :=
  startBlocks time (takeEvent j (expireFirst s.draws { s with draws := s.draws + 4 }))

/-- An expiry that comes before all else closes the load and reaches the fault record. -/
theorem expireFirst_frame (d : Nat) : ∃ tld fault laterCount, (tld = s.tld ∨ tld = s.tld.closed) ∧
    expireFirst d s = { s with tld := tld, cmu := { s.cmu with fault := fault, laterCount := laterCount } } := by
  unfold expireFirst
  split
  · obtain ⟨_, _, h⟩ := expireLoad_frame s s.rtx.number
    exact ⟨_, _, _, .inr rfl, h⟩
  · exact ⟨_, _, _, .inl rfl, rfl⟩

/-- The window start's own work is done in the state in which the receiver has taken the event. -/
theorem windowStart_eq (j : Taken) : ∃ cmu tld, cmu.SameNotes s.cmu ∧ (tld = s.tld ∨ tld = s.tld.closed) ∧
    windowStart time j s =
      startBlocks time { s with rrx := j.rrx, cmu := cmu, tld := tld, draws := s.draws + 4 } := by
  obtain ⟨tld, _, _, htld, hfirst⟩ := expireFirst_frame { s with draws := s.draws + 4 } s.draws
  obtain ⟨k, hk, htake⟩ := takeEvent_frame (expireFirst s.draws { s with draws := s.draws + 4 }) j
  refine ⟨k, tld, hk.trans ?_, htld, ?_⟩
  · rw [hfirst]
    exact ⟨_, _, _, _, _, _, _, _, rfl⟩
  · rw [windowStart, htake, hfirst]

variable (j : Taken)

@[simp] theorem windowStart_rrx : (windowStart time j s).rrx = j.rrx.windowStart time s.tables.ringset := by
  obtain ⟨_, _, _, _, h⟩ := windowStart_eq s time j
  rw [h, startBlocks_rrx]

@[simp] theorem windowStart_tables : (windowStart time j s).tables = s.tables := by
  obtain ⟨_, _, _, _, h⟩ := windowStart_eq s time j
  rw [h, startBlocks_tables]

@[simp] theorem windowStart_memory : (windowStart time j s).memory = s.memory := by
  obtain ⟨_, _, _, _, h⟩ := windowStart_eq s time j
  rw [h, startBlocks_memory]

@[simp] theorem windowStart_ios :
    (windowStart time j s).ios = s.ios.windowStart s.cmu.restartPending s.tables := by
  obtain ⟨_, _, hk, _, h⟩ := windowStart_eq s time j
  rw [h, startBlocks_ios, hk.restartPending]

@[simp] theorem windowStart_sgd :
    (windowStart time j s).sgd = s.sgd.windowStart s.cmu.restartPending s.tables := by
  obtain ⟨_, _, hk, _, h⟩ := windowStart_eq s time j
  rw [h, startBlocks_sgd, hk.restartPending]

@[simp] theorem windowStart_svu : (windowStart time j s).svu = s.svu.windowStart s.cmu.restartPending := by
  obtain ⟨_, _, hk, _, h⟩ := windowStart_eq s time j
  rw [h, startBlocks_svu, hk.restartPending]

@[simp] theorem windowStart_scc : (windowStart time j s).scc =
    if s.cmu.restartPending then s.scc.restarted else { s.scc with windowState := s.scc.scene } := by
  obtain ⟨_, _, hk, _, h⟩ := windowStart_eq s time j
  rw [h, startBlocks_scc, hk.restartPending]

theorem windowStart_lines_get (i : Fin 40) : (windowStart time j s).lines.get i =
    if s.cmu.restartPending then (startLine s.tables s.lines i).cleared else startLine s.tables s.lines i := by
  obtain ⟨_, _, hk, _, h⟩ := windowStart_eq s time j
  rw [h, startBlocks_lines_get, hk.restartPending]

@[simp] theorem windowStart_inWindow : (windowStart time j s).inWindow = s.inWindow := by
  obtain ⟨_, _, _, _, h⟩ := windowStart_eq s time j
  rw [h, startBlocks_inWindow]

@[simp] theorem windowStart_pending : (windowStart time j s).pending = s.pending := by
  obtain ⟨_, _, _, _, h⟩ := windowStart_eq s time j
  rw [h, startBlocks_pending]

/-! ### Up to the end of the tap pass -/

theorem sendFrame_frame (o : Opening) : ∃ rtx cmu, sendFrame o s = { s with
    rtx := rtx, cmu := cmu, ios := { s.ios with queue := s.ios.queue.tail } } := by
  unfold sendFrame
  split <;> exact ⟨_, _, rfl⟩

theorem countIdle_cases (l : Tld) :
    (∃ n, l.isOpen = true ∧ l.idle = some n ∧ l.countIdle = { l with idle := some (n + 1) }) ∨ l.countIdle = l := by
  unfold Tld.countIdle
  split
  · next n hopen hidle => exact .inl ⟨n, hopen, hidle, rfl⟩
  · exact .inr rfl
  · exact .inr rfl

/-- At a window start the idle timer counts, and an expiry that is due closes the load, here or later. -/
theorem idleStart_frame (o : Opening) (d : Nat) : ∃ tld fault laterCount,
    (tld = s.tld.countIdle ∨ tld = s.tld.countIdle.closed) ∧
    idleStart o d s = { s with tld := tld, cmu := { s.cmu with fault := fault, laterCount := laterCount } } := by
  unfold idleStart
  dsimp only
  split
  · exact ⟨_, _, _, .inl rfl, rfl⟩
  · rcases settleExpiry_cases { s with tld := s.tld.countIdle } with ⟨_, h⟩ | ⟨_, h⟩
    · obtain ⟨_, _, he⟩ := expireLoad_frame { s with tld := s.tld.countIdle } s.rtx.number
      exact ⟨_, _, _, .inr rfl, h.trans he⟩
    · exact ⟨_, _, _, .inl rfl, h⟩

/-- The state at the end of the tap pass, from the state right after the window start. -/
def windowStaged (o : Opening) (d : Nat) (w : State) : State :=
  let a := earlyStages (idleStart o d (sendFrame o w))
  { tapStage (runTaps a) a with inWindow := true }

/-- The state with what the frame sent and the idle timer change. -/
def sentWith (rtx : Rtx) (cmu : Cmu) (tld : Tld) (queue : List QueueEntry) (s : State) : State :=
  { s with rtx := rtx, cmu := cmu, tld := tld, ios := { s.ios with queue := queue } }

variable (rtx : Rtx) (cmu : Cmu) (tld : Tld) (queue : List QueueEntry)

theorem inputWrite_sentWith (i : Fin 24) :
    inputWrite (sentWith rtx cmu tld queue s) i = sentWith rtx cmu tld queue (inputWrite s i) := by
  unfold inputWrite
  dsimp only [sentWith]
  split <;> rfl

/-- The early stages do not read what the frame sent and the idle timer change. -/
theorem earlyStages_sentWith :
    earlyStages (sentWith rtx cmu tld queue s) = sentWith rtx cmu tld queue (earlyStages s) := by
  have hfold (l : List (Fin 24)) (t : State) : l.foldl inputWrite (sentWith rtx cmu tld queue t) =
      sentWith rtx cmu tld queue (l.foldl inputWrite t) := by
    induction l generalizing t with
    | nil => rfl
    | cons i l ih => rw [List.foldl_cons, inputWrite_sentWith, ih, List.foldl_cons]
  exact hfold _ (refreshStage (conditionInputs s))

theorem runTaps_sentWith : runTaps (sentWith rtx cmu tld queue s) = runTaps s := rfl

/-- The frame sent and the idle timer, together. -/
theorem idleStart_sendFrame (o : Opening) (d : Nat) (w : State) : ∃ rtx cmu tld,
    (tld = w.tld.countIdle ∨ tld = w.tld.countIdle.closed) ∧
    idleStart o d (sendFrame o w) = sentWith rtx cmu tld w.ios.queue.tail w := by
  obtain ⟨rtx, cmu, hsend⟩ := sendFrame_frame w o
  obtain ⟨tld, fault, laterCount, htld, hidle⟩ := idleStart_frame (sendFrame o w) o d
  refine ⟨rtx, { cmu with fault := fault, laterCount := laterCount }, tld, by rwa [hsend] at htld, ?_⟩
  rw [hidle, hsend]
  rfl

/-- The stages of a window, from the state right after its start. -/
theorem windowStaged_eq (o : Opening) (d : Nat) (w : State) : ∃ rtx cmu tld,
    (tld = w.tld.countIdle ∨ tld = w.tld.countIdle.closed) ∧
    windowStaged o d w = { sentWith rtx cmu tld w.ios.queue.tail (tapStage (runTaps (earlyStages w)) (earlyStages w))
      with inWindow := true } := by
  obtain ⟨rtx, cmu, tld, htld, hsent⟩ := idleStart_sendFrame o d w
  refine ⟨rtx, cmu, tld, htld, ?_⟩
  unfold windowStaged
  rw [hsent, earlyStages_sentWith]
  dsimp only
  rw [runTaps_sentWith]
  generalize earlyStages w = a
  generalize runTaps a = p
  rfl

@[simp] theorem windowStaged_rrx (o : Opening) (d : Nat) (w : State) : (windowStaged o d w).rrx = w.rrx := by
  obtain ⟨_, _, _, _, h⟩ := windowStaged_eq o d w
  obtain ⟨_, _, _, hearly⟩ := earlyStages_frame w
  rw [h, hearly]
  rfl

@[simp] theorem windowStaged_tables (o : Opening) (d : Nat) (w : State) : (windowStaged o d w).tables = w.tables := by
  obtain ⟨_, _, _, _, h⟩ := windowStaged_eq o d w
  obtain ⟨_, _, _, hearly⟩ := earlyStages_frame w
  rw [h, hearly]
  rfl

@[simp] theorem windowStaged_scc (o : Opening) (d : Nat) (w : State) : (windowStaged o d w).scc = w.scc := by
  obtain ⟨_, _, _, _, h⟩ := windowStaged_eq o d w
  obtain ⟨_, _, _, hearly⟩ := earlyStages_frame w
  rw [h, hearly]
  rfl

@[simp] theorem windowStaged_sgd (o : Opening) (d : Nat) (w : State) : (windowStaged o d w).sgd = w.sgd := by
  obtain ⟨_, _, _, _, h⟩ := windowStaged_eq o d w
  obtain ⟨_, _, _, hearly⟩ := earlyStages_frame w
  rw [h, hearly]
  rfl

@[simp] theorem windowStaged_svu (o : Opening) (d : Nat) (w : State) : (windowStaged o d w).svu = w.svu := by
  obtain ⟨_, _, _, _, h⟩ := windowStaged_eq o d w
  obtain ⟨_, _, _, hearly⟩ := earlyStages_frame w
  rw [h, hearly]
  rfl

@[simp] theorem windowStaged_pending (o : Opening) (d : Nat) (w : State) : (windowStaged o d w).pending = w.pending := by
  obtain ⟨_, _, _, _, h⟩ := windowStaged_eq o d w
  obtain ⟨_, _, _, hearly⟩ := earlyStages_frame w
  rw [h, hearly]
  rfl

theorem windowStaged_lines (o : Opening) (d : Nat) (w : State) :
    (windowStaged o d w).lines = (earlyStages w).lines := by
  obtain ⟨_, _, _, _, h⟩ := windowStaged_eq o d w
  rw [h]
  generalize earlyStages w = a
  rfl

theorem windowStaged_memory (o : Opening) (d : Nat) (w : State) :
    (windowStaged o d w).memory = (earlyStages w).memory := by
  obtain ⟨_, _, _, _, h⟩ := windowStaged_eq o d w
  rw [h]
  generalize earlyStages w = a
  rfl

theorem windowStaged_dmc (o : Opening) (d : Nat) (w : State) :
    (windowStaged o d w).dmc = (tapStage (runTaps (earlyStages w)) (earlyStages w)).dmc := by
  obtain ⟨_, _, _, _, h⟩ := windowStaged_eq o d w
  rw [h]
  rfl

@[simp] theorem windowStaged_inWindow (o : Opening) (d : Nat) (w : State) : (windowStaged o d w).inWindow = true := rfl

theorem openWindow_eq (o : Opening) : openWindow time j o s =
    settleExpiry (deliver o (runTaps (earlyStages (windowStart time j s))).shed s.draws
      (windowStaged o s.draws (windowStart time j s))) := by
  obtain ⟨rtx, cmu, tld, _, hsent⟩ := idleStart_sendFrame o s.draws (windowStart time j s)
  have hshed : (runTaps (earlyStages (idleStart o s.draws (sendFrame o (windowStart time j s))))).shed =
      (runTaps (earlyStages (windowStart time j s))).shed := by
    rw [hsent, earlyStages_sentWith, runTaps_sentWith]
  rw [← hshed]
  rfl

end Sys2Proof.Machine
end

section
/-! What every step keeps: a property that each part of every command keeps holds after every step. The case analysis
over the commands, and over what follows a window start, is made here once. -/

namespace Sys2Proof.Machine

/-- What the receiver makes of an event of the ring, by the event and its time. -/
inductive Takes (r : Rrx) : Nat → Taken → Prop
  | frame (time : Nat) (f : Frame) : Takes r time (r.takeFrame time f)
  | missing (time : Nat) (h : watchTime r = some time) : Takes r time r.takeMissing
  | localTimer (time : Nat) (h : localTime r = some time) : Takes r time r.takeLocal

/-- A property that says nothing of the Command Unit, and that every command and everything else after a window start
keeps. -/
structure KeptInWindow (P : State → Prop) : Prop extends KeptByCommands P where
  mark : ∀ s, P s → P (takeMark s)
  shed : ∀ s last worst windows, P s →
    P { s with dmc := { s.dmc with shedLast := last, shedWorst := worst, shedWindows := windows } }

section
variable {P : State → Prop} {s : State}

theorem KeptInWindow.recordShed (hP : KeptInWindow P) (n : Nat) (h : P s) : P (recordShed n s) :=
  hP.cmu _ { s.cmu with shedNote := s.cmu.shedNote || 0 < n } (hP.shed s n _ _ h)

/-- The deliveries keep what a mark, a shed record and a message keep. -/
theorem KeptInWindow.deliver (hP : KeptInWindow P) (o : Opening) (shed d : Nat) (h : P s) :
    P (deliver o shed d s) := by
  unfold Machine.deliver
  split
  · next f _ =>
    dsimp only
    have hmark (b : Bool) {t : State} (ht : P t) : P (if b then takeMark t else t) := by
      split
      · exact hP.mark _ ht
      · exact ht
    have hshed (b : Bool) {t u : State} (ht : P t) (hu : P u) : P (if b then t else u) := by
      split
      · exact ht
      · exact hu
    refine hshed _ (hP.recordShed _ ?_) ?_ <;>
      exact hmark _ (hP.takeCell _ _ (hshed _ (hmark _ h) (hP.recordShed _ (hmark _ h))))
  · obtain ⟨k, e⟩ := handBad_frame (Machine.recordShed shed s)
    exact e ▸ hP.cmu _ _ (hP.recordShed _ h)

/-- What follows the tap pass keeps what a mark, a shed record, a message and an expiry of the loader keep. -/
theorem KeptInWindow.openWindow (hP : KeptInWindow P) (hclosed : ∀ t, P t → P { t with tld := t.tld.closed })
    (time : Nat) (j : Taken) (o : Opening) (h : P (windowStaged o s.draws (windowStart time j s))) :
    P (openWindow time j o s) := by
  rw [openWindow_eq]
  generalize hu : Machine.deliver _ _ _ _ = u
  have hdelivered : P u := hu ▸ hP.deliver _ _ _ h
  rcases settleExpiry_cases u with ⟨_, e⟩ | ⟨_, e⟩
  · obtain ⟨_, _, f⟩ := expireLoad_frame u u.rtx.number
    rw [e, f]
    exact hP.cmu _ _ (hclosed u hdelivered)
  · rwa [e]

theorem takeMark_frame : ∃ scc triggerPending, takeMark s = { s with
    scc := scc, svu := { s.svu with triggerPending := triggerPending } } := by
  obtain ⟨_, h⟩ := surveyTrigger_frame (sceneMark s) .mark
  unfold takeMark
  rw [h]
  rcases sceneMark_cases s with ⟨_, e⟩ | ⟨_, e⟩ <;> rw [e] <;> exact ⟨_, _, rfl⟩

theorem forgiveDetector_frame (i : Fin 24) (s : State) : ∃ sgd, forgiveDetector i s = { s with sgd := sgd } := by
  unfold forgiveDetector
  dsimp only
  split <;> exact ⟨_, rfl⟩

theorem overflowNow_frame (e : DetectorEntry) (s : State) : ∃ cmu, overflowNow e s = { s with
    cmu := cmu, sgd := { s.sgd with groups := overflowGroup e s.sgd.groups } } := by
  unfold overflowNow
  dsimp only
  split
  · obtain ⟨_, _, h⟩ := raise_frame { s with sgd := { s.sgd with groups := overflowGroup e s.sgd.groups } }
      .guardCut e.group.val
    exact ⟨_, h⟩
  · exact ⟨_, rfl⟩

theorem tripDetector_frame (i : Fin 24) (s : State) :
    ∃ sgd cmu, tripDetector i s = { s with sgd := sgd, cmu := cmu } := by
  unfold tripDetector
  dsimp only
  split
  · split
    · obtain ⟨_, h⟩ := overflowNow_frame (s.sgd.detectors.get i).entry { s with sgd := { s.sgd with
        detectors := s.sgd.detectors.put i ({ s.sgd.detectors.get i with
          debounce := (s.sgd.detectors.get i).entry.debounceWindows }.takeTrip).1 } }
      exact ⟨_, _, h⟩
    · exact ⟨_, _, rfl⟩
  · exact ⟨_, _, rfl⟩

theorem levelFinishNow_frame (s : State) : ∃ svu results, levelFinishNow s = { s with
    svu := svu, tables := { s.tables with results := results } } := by
  unfold levelFinishNow
  (repeat' split) <;> exact ⟨_, _, rfl⟩

theorem decayFinishNow_frame (s : State) : ∃ svu results, decayFinishNow s = { s with
    svu := svu, tables := { s.tables with results := results } } := by
  unfold decayFinishNow
  (repeat' split) <;> exact ⟨_, _, rfl⟩

/-- A property that every part of every command keeps, the windows opened and ended as wholes. -/
structure KeptByEvents (P : State → Prop) : Prop extends KeptInWindow P where
  powerOn : ∀ straps time s, P s → P (powerOn straps time s)
  closed : ∀ s, P s → P { s with tld := s.tld.closed }
  ended : ∀ s, s.inWindow = true → rowsExist s = true → P s → P (endWindow s)
  opened : ∀ s time j o, Takes s.rrx time j → j.opening = some o → s.inWindow = false → P s →
    P (openWindow time j o s)
  quiet : ∀ s time j, Takes s.rrx time j → j.opening = none → P s → P { s with rrx := j.rrx }
  refresh : ∀ s due overruns, s.dmc.refreshDue = some due → P s → P { s with dmc := { s.dmc with
    refreshDue := some (due + s.dmc.timing.interval)
    pendingRefresh := if s.dmc.pendingRefresh < 7 then s.dmc.pendingRefresh + 1 else s.dmc.pendingRefresh
    refreshOverruns := overruns } }
  forgiven : ∀ s i, P s → P (forgiveDetector i s)
  recovered : ∀ s i, P s → P (recoverGroup i s)
  tripped : ∀ s i, P s → P (tripDetector i s)
  levelFinish : ∀ s, P s → P (levelFinishNow s)
  decayFinish : ∀ s, P s → P (decayFinishNow s)

/-- Such a property that says nothing of the queue of commands. -/
structure KeptByParts (P : State → Prop) : Prop extends KeptByEvents P where
  pending : ∀ s queue, P s → P { s with pending := queue }

variable {t : State}

theorem KeptByEvents.refreshTimer (hP : KeptByEvents P) (h : P s) (hs : execRefreshTimerExpiry s = .next t) : P t := by
  unfold execRefreshTimerExpiry at hs
  split at hs
  · next due hdue =>
    cases hs
    unfold addRefresh
    split
    · next hlt =>
      have hkept := hP.refresh s due s.dmc.refreshOverruns hdue h
      rwa [if_pos hlt] at hkept
    · next hge =>
      have hkept := hP.refresh s due (saturate s.dmc.refreshOverruns 1) hdue h
      rw [if_neg hge] at hkept
      obtain ⟨_, _, e⟩ := raise_frame { s with dmc := { s.dmc with
        refreshDue := some (due + s.dmc.timing.interval)
        refreshOverruns := saturate s.dmc.refreshOverruns 1 } } .refreshOverrun 0
      exact e ▸ hP.cmu _ _ hkept
  · cases hs
    exact h

theorem KeptByEvents.ring (hP : KeptByEvents P) (h : P s) {time : Nat} {j : Taken} (hj : Takes s.rrx time j)
    (hs : ringOutcome time j s = .next t) : P t := by
  rcases ringOutcome_next hs with ⟨o, ho, hrows, ht⟩ | ⟨ho, ht⟩
  · rw [ht]
    rcases endWindow_cases s with ⟨hw, _⟩ | ⟨hw, e⟩
    · exact hP.opened (endWindow s) time j o ((endWindow_rrx s).symm ▸ hj) ho (endWindow_inWindow s) (hP.ended s hw hrows h)
    · rw [e]
      exact hP.opened s time j o hj ho hw h
  · obtain ⟨k, e⟩ := handBad_frame s
    obtain ⟨l, _, f⟩ := takeEvent_frame (handBad s) j
    rw [ht, f, e]
    exact hP.cmu _ _ (hP.quiet s time j hj ho h)

theorem KeptByEvents.windowEndIf (hP : KeptByEvents P) (h : P s) {due : Bool}
    (hs : Machine.windowEndIf due s = .next t) : P t := by
  rcases windowEndIf_next hs with ⟨hw, _, hrows, rfl⟩ | ⟨_, rfl⟩
  · exact hP.ended s hw hrows h
  · exact h

/-- Each command keeps what its parts keep. -/
theorem KeptByEvents.exec (hP : KeptByEvents P) (i : Instr) (h : P s) (hs : Machine.exec i s = .next t) : P t := by
  have hmessage (via : Addressee) (c : Command) (args : List Word)
      (hm : Host.Outcome.next (takeMessage via c args s) = (.next t : Host.Outcome State Fault Refusal)) : P t := by
    cases hm
    exact hP.takeMessage via c args h
  cases i with
  | powerOnReset straps time => cases hs; exact hP.powerOn straps time s h
  | frameArrival time f => exact hP.ring h (.frame time f) hs
  | watchExpiry =>
    rcases execWatchExpiry_next hs with ⟨time, htime, hs⟩ | ⟨_, rfl⟩
    · exact hP.ring h (.missing time htime) hs
    · exact h
  | localFrameTimerExpiry =>
    rcases execLocalFrameTimerExpiry_next hs with ⟨time, htime, hs⟩ | ⟨_, rfl⟩
    · exact hP.ring h (.localTimer time htime) hs
    · exact h
  | refreshTimerExpiry => exact hP.refreshTimer h hs
  | windowEnd =>
    obtain ⟨rfl, hrows⟩ := execWindowEnd_next hs
    rcases endWindow_cases s with ⟨hw, _⟩ | ⟨_, e⟩
    · exact hP.ended s hw (hrows hw) h
    · rwa [e]
  | status via args => exact hmessage via .status args hs
  | read via args => exact hmessage via .read args hs
  | write via args => exact hmessage via .write args hs
  | loadOpen via args => exact hmessage via .loadOpen args hs
  | loadData via args => exact hmessage via .loadData args hs
  | loadClose via args => exact hmessage via .loadClose args hs
  | commit via args => exact hmessage via .commit args hs
  | cancel via args => exact hmessage via .cancel args hs
  | hush via args => exact hmessage via .hush args hs
  | resume via args => exact hmessage via .resume args hs
  | guardClear via args => exact hmessage via .guardClear args hs
  | surveyStart via args => exact hmessage via .surveyStart args hs
  | surveyStop via args => exact hmessage via .surveyStop args hs
  | faultClear via args => exact hmessage via .faultClear args hs
  | restart via args => exact hmessage via .restart args hs
  | loadTimeout =>
    cases hs
    unfold loadTimeoutNow
    split
    · obtain ⟨_, _, e⟩ := expireLoad_frame s s.rtx.number
      exact e ▸ hP.cmu _ _ (hP.closed s h)
    · exact h
  | forgivenessExpiry i => cases hs; exact hP.forgiven s i h
  | recoveryExpiry i => cases hs; exact hP.recovered s i h
  | trip i => cases hs; exact hP.tripped s i h
  | fadeTargetAction => exact hP.windowEndIf h hs
  | fadeInComplete => exact hP.windowEndIf h hs
  | levelFinish => cases hs; exact hP.levelFinish s h
  | decayFinish => cases hs; exact hP.decayFinish s h

/-- Every step keeps what the parts of every command keep. -/
theorem KeptByParts.step (hP : KeptByParts P) (h : P s) (hs : Machine.step s = .next t) : P t := by
  rcases step_cases hs with ⟨c, rest, _, hs⟩ | ⟨_, rfl⟩
  · exact hP.exec c (hP.pending s rest h) hs
  · exact h

end
end Sys2Proof.Machine
end

section
/-! The output queue (R126): a window start takes its head, and a window end appends an entry. -/

namespace Sys2Proof.Machine

theorem endWindow_queue (s : State) (h : s.inWindow = true) : ∃ e, (endWindow s).ios.queue = s.ios.queue ++ [e] := by
  rcases endWindow_cases s with ⟨_, e⟩ | ⟨hw, _⟩
  · obtain ⟨_, hbefore⟩ := beforeScene_eq s
    obtain ⟨_, _, _, _, hscene⟩ := sceneWindowEnd_frame (beforeScene s)
    obtain ⟨_, _, _, _, hsettle⟩ := settleSwap_frame { endBlocks s with inWindow := false }
    rw [e, hsettle, endBlocks_eq, hscene, hbefore]
    exact ⟨_, rfl⟩
  · rw [h] at hw
    cases hw

theorem windowStaged_queue (s : State) (time : Nat) (j : Taken) (o : Opening) (d : Nat) :
    (windowStaged o d (windowStart time j s)).ios.queue = s.ios.queue.tail := by
  obtain ⟨_, _, _, _, h⟩ := windowStaged_eq o d (windowStart time j s)
  rw [h]
  simp only [sentWith, windowStart_ios, Ios.windowStart]

theorem queueInv_keptInWindow : KeptInWindow QueueInv where
  cmu _ _ h := h
  effect c args s _ h := by
    obtain ⟨_, _, _, _, _, _, _, _, _, _, _, _, _, _, _, _, e⟩ := (effect_acts s args c).frame
    rw [e]
    exact h
  mark s h := by
    obtain ⟨_, _, e⟩ := takeMark_frame (s := s)
    rw [e]
    exact h
  shed _ _ _ _ h := h

theorem queueInv_kept : KeptByParts QueueInv where
  toKeptInWindow := queueInv_keptInWindow
  pending _ _ h := h
  powerOn _ _ _ _ := rfl
  closed _ h := h
  ended s hw _ h := by
    obtain ⟨_, e⟩ := endWindow_queue s hw
    have hlen : s.ios.queue.length = 1 := by simpa [QueueInv, hw] using h
    simp [QueueInv, e, hlen]
  opened s time j o _ _ hw h := by
    refine queueInv_keptInWindow.openWindow (fun _ ht => ht) time j o ?_
    have hlen : s.ios.queue.length = 2 := by simpa [QueueInv, hw] using h
    simp [QueueInv, windowStaged_queue, hlen]
  quiet _ _ _ _ _ h := h
  refresh _ _ _ _ h := h
  forgiven s i h := by
    obtain ⟨_, e⟩ := forgiveDetector_frame i s
    rwa [e]
  recovered _ _ h := h
  tripped s i h := by
    obtain ⟨_, _, e⟩ := tripDetector_frame i s
    rwa [e]
  levelFinish s h := by
    obtain ⟨_, _, e⟩ := levelFinishNow_frame s
    rwa [e]
  decayFinish s h := by
    obtain ⟨_, _, e⟩ := decayFinishNow_frame s
    rwa [e]

/-- Settles O53: a window takes the head of two entries at its start, and appends one at its end. -/
theorem stepsKeepTheOutputQueue : Obligations.StepsKeepTheOutputQueue := fun _ _ => queueInv_kept.step

end Sys2Proof.Machine
end

section
/-! The Table Store: what a stored entry, and a stored run of entries, reads back as, and what it leaves alone
(R176, R184, R209). -/

namespace Sys2Proof.Machine

variable (t : Tables) (n m : BankName)

@[simp] theorem Tables.bank_putBank_same (b : SceneBank) : (t.putBank n b).bank n = b := by
  cases n <;> rfl

theorem Tables.bank_putBank_ne (b : SceneBank) (h : m ≠ n) : (t.putBank n b).bank m = t.bank m := by
  cases n <;> cases m <;> simp_all [Tables.bank, Tables.putBank]

theorem Triple.words_tripleOf {ws : List Word} (h : ws.length = 3) : (tripleOf ws).words = ws := by
  obtain ⟨a, b, c, rfl⟩ := List.length_eq_three.1 h
  rfl

theorem Pair.words_pairOf {ws : List Word} (h : ws.length = 2) : (pairOf ws).words = ws := by
  obtain ⟨a, b, rfl⟩ := List.length_eq_two.1 h
  rfl

theorem singleton_getD {ws : List Word} (h : ws.length = 1) : [ws.getD 0 0#24] = ws := by
  obtain ⟨a, rfl⟩ := List.length_eq_one_iff.1 h
  rfl

/-! ### One entry -/

/-- A stored entry reads back as written. -/
theorem Tables.entryWords_storeEntry_same (id i : Nat) (ws : List Word) (hid : id < 10)
    (hws : ws.length = tableWidth id) : (t.storeEntry n id i ws).entryWords n id i = ws := by
  match id, hid, hws with
  | 0, _, h | 1, _, h | 2, _, h =>
    simp [storeEntry, entryWords, SceneBank.store, Triple.words_tripleOf h]
  | 3, _, h | 4, _, h | 5, _, h | 7, _, h | 9, _, h =>
    simpa [storeEntry, entryWords] using singleton_getD h
  | 6, _, h | 8, _, h => simp [storeEntry, entryWords, Pair.words_pairOf h]

/-- An entry stored in a bank table leaves the other bank's. -/
theorem Tables.bank_storeEntry_ne (id i : Nat) (ws : List Word) (h : m ≠ n ∨ 3 ≤ id) :
    (t.storeEntry n id i ws).bank m = t.bank m := by
  match id, h with
  | 0, .inl h | 1, .inl h | 2, .inl h => exact Tables.bank_putBank_ne t n m _ h
  | 3, _ | 4, _ | 5, _ | 6, _ | 7, _ | 8, _ | 9, _ | _ + 10, _ => cases m <;> rfl

/-- An entry of a bank table leaves the system tables. -/
theorem Tables.entryWords_storeEntry_system (id i k j : Nat) (ws : List Word) (hid : id ≤ 2) (hk : 3 ≤ k) :
    (t.storeEntry n id i ws).entryWords m k j = t.entryWords m k j := by
  have hbanks : ∃ a b, t.storeEntry n id i ws = { t with bankA := a, bankB := b } := by
    match id, hid with
    | 0, _ | 1, _ | 2, _ => cases n <;> exact ⟨_, _, rfl⟩
  obtain ⟨_, _, h⟩ := hbanks
  rw [h]
  match k, hk with
  | 3, _ | 4, _ | 5, _ | 6, _ | 7, _ | 8, _ | 9, _ | 10, _ | _ + 11, _ => rfl

/-- An entry of one system table leaves every other. -/
theorem Tables.entryWords_storeEntry_other (id i k j : Nat) (ws : List Word) (hid : 3 ≤ id) (hid' : id < 10)
    (hk : 3 ≤ k) (hne : k ≠ id) : (t.storeEntry n id i ws).entryWords m k j = t.entryWords m k j := by
  match k, hk with
  | 3, _ | 4, _ | 5, _ | 6, _ | 7, _ | 8, _ | 9, _ => interval_cases id <;> simp_all [storeEntry, entryWords]
  | 10, _ | _ + 11, _ => interval_cases id <;> rfl

/-- What an entry of a bank table reads comes of its bank alone. -/
theorem Tables.entryWords_of_bank {u : Tables} (k j : Nat) (hk : k ≤ 2) (h : u.bank m = t.bank m) :
    u.entryWords m k j = t.entryWords m k j := by
  match k, hk with
  | 0, _ | 1, _ | 2, _ => simp only [entryWords, h]

/-- An entry of one table of a bank leaves the bank's other two. -/
theorem Tables.entryWords_storeEntry_bank (id i k j : Nat) (ws : List Word) (hid : id ≤ 2) (hk : k ≤ 2)
    (hne : k ≠ id) : (t.storeEntry n id i ws).entryWords n k j = t.entryWords n k j := by
  interval_cases id <;> interval_cases k <;> simp_all [storeEntry, entryWords, SceneBank.store]

theorem Regs.get_put_ofNat_ne {α : Type} {size : Nat} [NeZero size] (r : Regs α size) {i j : Nat} (x : α)
    (hi : i < size) (hj : j < size) (hne : j ≠ i) :
    (r.put (Fin.ofNat size i) x).get (Fin.ofNat size j) = r.get (Fin.ofNat size j) := by
  refine Regs.get_put_ne r x fun h => hne ?_
  have hval := congrArg Fin.val h
  simp only [Fin.val_ofNat, Nat.mod_eq_of_lt hi, Nat.mod_eq_of_lt hj] at hval
  exact hval.symm

/-- An entry leaves every other index of its table. -/
theorem Tables.entryWords_storeEntry_index (id i j size : Nat) (ws : List Word) (hid : id < 10)
    (hsize : tableEntries id = some size) (hi : i < size) (hj : j < size) (hne : j ≠ i) :
    (t.storeEntry n id i ws).entryWords n id j = t.entryWords n id j := by
  match id, hid, hsize with
  | 0, _, rfl | 8, _, rfl | 9, _, rfl => omega
  | 1, _, rfl | 2, _, rfl => 
    simp only [storeEntry, entryWords, SceneBank.store, bank_putBank_same, Regs.get_put_ofNat_ne _ _ hi hj hne]
  | 3, _, rfl | 4, _, rfl | 5, _, rfl | 6, _, rfl | 7, _, rfl =>
    simp only [storeEntry, entryWords, Regs.get_put_ofNat_ne _ _ hi hj hne]

/-- Where a read lies apart from an entry: in the other bank, in another table, or at another index. -/
def ApartFrom (n : BankName) (id i : Nat) (m : BankName) (k j : Nat) : Prop := (m ≠ n ∧ k ≤ 2) ∨ k ≠ id ∨ j ≠ i

/-- What an entry of a system table reads comes of no bank. -/
theorem Tables.entryWords_system (k j : Nat) (hk : 3 ≤ k) : t.entryWords m k j = t.entryWords n k j := by
  match k, hk with
  | 3, _ | 4, _ | 5, _ | 6, _ | 7, _ | 8, _ | 9, _ | 10, _ | _ + 11, _ => rfl

/-- A stored entry leaves every other entry of every table. -/
theorem Tables.entryWords_storeEntry_apart (id i k j size size' : Nat) (ws : List Word) (hid : id < 10)
    (hsize : tableEntries id = some size) (hi : i < size) (hsize' : tableEntries k = some size') (hj : j < size')
    (h : ApartFrom n id i m k j) : (t.storeEntry n id i ws).entryWords m k j = t.entryWords m k j := by
  by_cases hbank : m ≠ n ∧ k ≤ 2
  · exact entryWords_of_bank t m k j hbank.2 (bank_storeEntry_ne t n m id i ws (.inl hbank.1))
  · have hother := h.resolve_left hbank
    rcases Nat.lt_or_ge k 3 with hk | hk
    · obtain rfl : m = n := by
        by_contra hm
        exact hbank ⟨hm, by omega⟩
      rcases Nat.lt_or_ge id 3 with hid3 | hid3
      · by_cases hkid : k = id
        · subst hkid
          obtain rfl : size' = size := by simpa [hsize] using hsize'.symm
          exact entryWords_storeEntry_index t m k i j size' ws hid hsize hi hj (by simpa using hother)
        · exact entryWords_storeEntry_bank t m id i k j ws (by omega) (by omega) hkid
      · exact entryWords_of_bank t m k j (by omega) (bank_storeEntry_ne t m m id i ws (.inr hid3))
    · rcases Nat.lt_or_ge id 3 with hid3 | hid3
      · exact entryWords_storeEntry_system t n m id i k j ws (by omega) hk
      · by_cases hkid : k = id
        · subst hkid
          obtain rfl : size' = size := by simpa [hsize] using hsize'.symm
          rw [entryWords_system _ n m k j hk, entryWords_system t n m k j hk]
          exact entryWords_storeEntry_index t n k i j size' ws hid hsize hi hj (by simpa using hother)
        · exact entryWords_storeEntry_other t n m id i k j ws hid3 hid hk hkid

/-! ### A run of entries -/

theorem Tables.storeRun_cons (id start : Nat) (e : List Word) (es : List (List Word)) :
    t.storeRun n id start (e :: es) = (t.storeEntry n id start e).storeRun n id (start + 1) es := rfl

/-- A stored run leaves every entry outside it. -/
theorem Tables.entryWords_storeRun_apart (id start size : Nat) (entries : List (List Word)) (hid : id < 10)
    (hsize : tableEntries id = some size) (hfits : start + entries.length ≤ size) (k j size' : Nat)
    (hsize' : tableEntries k = some size') (hj : j < size')
    (h : (m ≠ n ∧ k ≤ 2) ∨ k ≠ id ∨ j < start ∨ start + entries.length ≤ j) :
    (t.storeRun n id start entries).entryWords m k j = t.entryWords m k j := by
  induction entries generalizing t start with
  | nil => rfl
  | cons e es ih =>
    simp only [List.length_cons] at hfits h
    rw [storeRun_cons, ih _ (start + 1) (by omega) (h.imp_right (Or.imp_right fun h => by omega))]
    exact entryWords_storeEntry_apart t n m id start k j size size' e hid hsize (by omega) hsize' hj
      (h.imp_right (Or.imp_right fun h => by omega))

/-- A stored run reads back as written. -/
theorem Tables.entryWords_storeRun_same (id start size : Nat) (entries : List (List Word)) (hid : id < 10)
    (hsize : tableEntries id = some size) (hfits : start + entries.length ≤ size)
    (hwidth : ∀ e ∈ entries, e.length = tableWidth id) (j : Nat) (hj : j < entries.length) :
    (t.storeRun n id start entries).entryWords n id (start + j) = entries[j] := by
  induction entries generalizing t start j with
  | nil => simp at hj
  | cons e es ih =>
    simp only [List.length_cons] at hfits hj
    rw [storeRun_cons]
    cases j with
    | zero =>
      change ((t.storeEntry n id start e).storeRun n id (start + 1) es).entryWords n id start = e
      rw [entryWords_storeRun_apart _ n n id (start + 1) size es hid hsize (by omega) id start size hsize
        (by omega) (.inr (.inr (.inl (by omega))))]
      exact entryWords_storeEntry_same t n id start e hid (hwidth e (List.mem_cons_self ..))
    | succ j =>
      rw [show start + (j + 1) = start + 1 + j by omega]
      exact ih _ (start + 1) (by omega) (fun e he => hwidth e (List.mem_cons_of_mem _ he)) j (by omega)

/-- Settles O12: by induction on the run, each entry being apart from those stored after it. -/
theorem storedRunReadsBack : Obligations.StoredRunReadsBack := by
  intro t n id start size entries hid hsize hfits hwidth
  exact ⟨fun j hj => t.entryWords_storeRun_same n id start size entries hid hsize hfits hwidth j hj,
    fun m k j size' hsize' hj h => t.entryWords_storeRun_apart n m id start size entries hid hsize hfits k j size'
      hsize' hj h⟩

end Sys2Proof.Machine
end

section
/-! What a command makes of the system tables: each entry stays, or is one that its owner has found good in the table
that resulted (R183). -/

namespace Sys2Proof.Machine

theorem storeRun_withBanks (t : Tables) (n : BankName) (id start : Nat) (entries : List (List Word)) (hid : id ≤ 2) :
    ∃ a b, t.storeRun n id start entries = t.withBanks a b := by
  induction entries generalizing t start with
  | nil => exact ⟨t.bankA, t.bankB, rfl⟩
  | cons e es ih =>
    have hone : ∃ a b, t.storeEntry n id start e = t.withBanks a b := by
      match id, hid with
      | 0, _ | 1, _ | 2, _ => exact putBank_withBanks t n _
    obtain ⟨_, _, h⟩ := hone
    obtain ⟨_, _, hes⟩ := ih (t.storeEntry n id start e) (start + 1)
    rw [Tables.storeRun_cons, hes, h]
    exact ⟨_, _, rfl⟩

variable {s t : State}

/-- A command changes the banks alone, or stores a run of good entries in one system table. -/
theorem Acts.tables_cases (h : Acts s t) : (∃ a b, t.tables = s.tables.withBanks a b) ∨
    ∃ (id start size : Nat) (entries : List (List Word)), 3 ≤ id ∧ id < 10 ∧ tableEntries id = some size ∧
      start + entries.length ≤ size ∧
      t.tables = s.tables.storeRun (shadowName s) id start entries ∧
      ∀ j < entries.length, badEntry t.tables start entries.length id (start + j) = false := by
  cases h with
  | stored id start entries hid _ hfits hgood =>
    rcases Nat.lt_or_ge id 3 with hlt | hge
    · exact .inl (storeRun_withBanks _ _ _ _ _ (by omega))
    · have hsize : ∃ size, tableEntries id = some size := by
        match id, hid with
        | 0, _ | 1, _ | 2, _ | 3, _ | 4, _ | 5, _ | 6, _ | 7, _ | 8, _ | 9, _ => exact ⟨_, rfl⟩
      obtain ⟨size, hsize⟩ := hsize
      exact .inr ⟨id, start, size, entries, hge, hid, hsize, by simpa [hsize] using hfits, rfl, hgood⟩
  | loaded args _ =>
    obtain ⟨a, b, _, _, e⟩ := loadWords_frame args ({ s with tld := { s.tld with idle := some 0 } }, 0)
    exact .inl ⟨a, b, by rw [e]⟩
  | due =>
    obtain ⟨_, _, _, _, e⟩ := settleSwap_frame { s with scc := { s.scc with shadowLocked := true, swapDue := true } }
    exact .inl ⟨s.tables.bankA, s.tables.bankB, by rw [e]; rfl⟩
  | _ => exact .inl ⟨s.tables.bankA, s.tables.bankB, rfl⟩

/-- After a command each entry of a system table is what it was, or has been found good. -/
theorem Acts.entry_cases (h : Acts s t) (k j size : Nat) (hk : 3 ≤ k) (hsize : tableEntries k = some size)
    (hj : j < size) : t.tables.entryWords .a k j = s.tables.entryWords .a k j ∨
      ∃ start n, badEntry t.tables start n k j = false := by
  rcases h.tables_cases with ⟨_, _, e⟩ | ⟨id, start, size', entries, _, hid, hsize', hfits, e, hgood⟩
  · rw [e]
    match k, hk with
    | 3, _ | 4, _ | 5, _ | 6, _ | 7, _ | 8, _ | 9, _ | 10, _ | _ + 11, _ => exact .inl rfl
  · by_cases hin : k = id ∧ start ≤ j ∧ j < start + entries.length
    · obtain ⟨rfl, hlow, hhigh⟩ := hin
      have hfound := hgood (j - start) (by omega)
      rw [Nat.add_sub_cancel' hlow] at hfound
      exact .inr ⟨_, _, hfound⟩
    · rw [e]
      exact .inl (Tables.entryWords_storeRun_apart _ _ _ id start size' entries hid hsize' hfits k j size hsize hj
        (.inr (by omega)))

theorem Acts.ringset (h : Acts s t) :
    t.tables.ringset = s.tables.ringset ∨ badRing (ringOf t.tables.ringset) = false := by
  rcases h.entry_cases 9 0 1 (by decide) rfl (by decide) with e | ⟨_, _, hgood⟩
  · exact .inl (by simpa [Tables.entryWords] using e)
  · exact .inr hgood

theorem Acts.timing (h : Acts s t) :
    t.tables.timing = s.tables.timing ∨ (timingOf t.tables.timing).acceptable = true := by
  rcases h.entry_cases 8 0 1 (by decide) rfl (by decide) with e | ⟨_, _, hgood⟩
  · have e : t.tables.timing.words = s.tables.timing.words := e
    simp only [Pair.words, List.cons.injEq, and_true] at e
    exact .inl (by cases ht : t.tables.timing; cases hs : s.tables.timing; simp_all)
  · exact .inr (by simpa [badEntry] using hgood)

theorem Acts.detectors (h : Acts s t) (i : Fin 24) : t.tables.detectors.get i = s.tables.detectors.get i ∨
    badDetector (detectorOf (t.tables.detectors.get i)) = false := by
  rcases h.entry_cases 6 i.val 24 (by decide) rfl i.isLt with e | ⟨_, _, hgood⟩
  · have e : (t.tables.detectors.get (Fin.ofNat 24 i.val)).words = (s.tables.detectors.get (Fin.ofNat 24 i.val)).words := e
    rw [Fin.ofNat_val_eq_self] at e
    simp only [Pair.words, List.cons.injEq, and_true] at e
    exact .inl (by cases ht : t.tables.detectors.get i; cases hs : s.tables.detectors.get i; simp_all)
  · refine .inr ?_
    simpa only [badEntry, Fin.ofNat_val_eq_self] using hgood

theorem Acts.groups (h : Acts s t) (i : Fin 8) : t.tables.groups.get i = s.tables.groups.get i ∨
    badGroup (groupOf (t.tables.groups.get i)) = false := by
  rcases h.entry_cases 7 i.val 8 (by decide) rfl i.isLt with e | ⟨_, _, hgood⟩
  · refine .inl ?_
    simpa only [Tables.entryWords, Fin.ofNat_val_eq_self, List.cons.injEq, and_true] using e
  · refine .inr ?_
    simpa only [badEntry, Fin.ofNat_val_eq_self] using hgood

end Sys2Proof.Machine
end

section
/-! The receiver (R134 to R142): what an event leaves in its counts and its period, and how the window start sets its
timers by the lock state. -/

namespace Sys2Proof.Machine

/-- The counts, the period and the record of the receiver in their ranges. -/
def CountsOk (r : Rrx) : Prop :=
  ringOk r.ringset ∧ 461 ≤ r.period ∧ r.period ≤ 563 ∧ r.goodCount ≤ 255 ∧ r.badCount ≤ 15 ∧
    (r.lock ≠ .flywheel → r.badCount = 0)

/-- Each ring timer runs in its states alone. -/
def TimersOk (r : Rrx) : Prop :=
  r.watch.isSome = cellsReach r.lock ∧ r.localTimer.isSome = !cellsReach r.lock

theorem receiverInv_iff (s : State) :
    ReceiverInv s ↔ ringOk (ringOf s.tables.ringset) ∧ CountsOk s.rrx ∧ TimersOk s.rrx := by
  unfold ReceiverInv CountsOk TimersOk
  tauto

theorem nextPeriod_range (p i : Nat) (h : 461 ≤ p ∧ p ≤ 563) : 461 ≤ nextPeriod p i ∧ nextPeriod p i ≤ 563 := by
  unfold nextPeriod
  split
  · next hi =>
    simp only [Bool.and_eq_true, decide_eq_true_eq] at hi
    omega
  · exact h

variable {r : Rrx}

/-- Below the tolerance the bad count stays in its range; at the tolerance it is 0 again (R142). -/
theorem takeFailing_counts (o : Option Opening) (h : CountsOk r) : CountsOk (r.takeFailing o).rrx := by
  obtain ⟨hring, hlow, hhigh, hgood, _, _⟩ := h
  unfold Rrx.takeFailing
  dsimp only
  split
  · exact ⟨hring, hlow, hhigh, Nat.zero_le _, Nat.zero_le _, fun _ => rfl⟩
  · next hbelow =>
    have hlt : (r.flywheel o.isSome).badCount < r.ringset.tolerance := Nat.lt_of_not_le hbelow
    have htol : r.ringset.tolerance ≤ 15 := hring.2.1
    exact ⟨hring, hlow, hhigh, hgood, (hlt.trans_le htol).le, fun hlock => absurd rfl hlock⟩

/-- A failing frame leaves the timers right for the state it leads to. -/
theorem takeFailing_timers (o : Option Opening) (h : TimersOk r) (hlock : cellsReach r.lock = true) :
    TimersOk (r.takeFailing o).rrx := by
  obtain ⟨hwatch, hlocal⟩ := h
  unfold Rrx.takeFailing
  dsimp only
  split
  · refine ⟨rfl, ?_⟩
    unfold Rrx.lose
    dsimp only
    split <;> rfl
  · rw [hlock] at hwatch hlocal
    exact ⟨hwatch, hlocal⟩

theorem takeFollowing_counts (time : Nat) (f : Frame) (h : CountsOk r) : CountsOk (r.takeFollowing time f).rrx := by
  unfold Rrx.takeFollowing
  split
  · exact takeFailing_counts none h
  · split
    · obtain ⟨hring, hlow, hhigh, hgood, _, _⟩ := h
      have hperiod : 461 ≤ (r.takeFollowed time f).period ∧ (r.takeFollowed time f).period ≤ 563 := by
        unfold Rrx.takeFollowed
        dsimp only
        split
        · exact nextPeriod_range _ _ ⟨hlow, hhigh⟩
        · exact ⟨hlow, hhigh⟩
      exact ⟨hring, hperiod.1, hperiod.2, hgood, Nat.zero_le _, fun _ => rfl⟩
    · exact takeFailing_counts _ h

theorem takeSearching_counts (time : Nat) (f : Frame) (h : CountsOk r) (hlock : r.lock = .searching) :
    CountsOk (r.takeSearching time f).rrx := by
  obtain ⟨hring, hlow, hhigh, hgood, hbad, hzero⟩ := h
  have hbad0 : r.badCount = 0 := hzero (by simp [hlock])
  unfold Rrx.takeSearching
  dsimp only
  split
  · split <;> exact ⟨hring, hlow, hhigh, Nat.le_of_ble_eq_true rfl, hbad, fun _ => hbad0⟩
  · exact ⟨hring, hlow, hhigh, hgood, hbad, fun _ => hbad0⟩

theorem takeAcquiring_counts (time : Nat) (f : Frame) (h : CountsOk r) (hlock : r.lock = .acquiring) :
    CountsOk (r.takeAcquiring time f).rrx := by
  obtain ⟨hring, hlow, hhigh, hgood, hbad, hzero⟩ := h
  have hbad0 : r.badCount = 0 := hzero (by simp [hlock])
  have hnext : r.nextGood ≤ 255 := Nat.min_le_right _ _
  unfold Rrx.takeAcquiring
  split
  · split
    · unfold Rrx.takeCounted
      dsimp only [Taken.opens]
      split
      · exact ⟨hring, hlow, hhigh, hnext, Nat.zero_le _, fun _ => rfl⟩
      · exact ⟨hring, hlow, hhigh, hnext, hbad, fun _ => hbad0⟩
    · exact ⟨hring, hlow, hhigh, Nat.zero_le _, hbad, fun _ => hbad0⟩
  · exact ⟨hring, hlow, hhigh, Nat.zero_le _, hbad, fun _ => hbad0⟩

/-- Every event of the ring keeps the counts and the period in their ranges. -/
theorem Takes.counts {time : Nat} {j : Taken} (hj : Takes r time j) (h : CountsOk r) : CountsOk j.rrx := by
  cases hj with
  | frame f =>
    unfold Rrx.takeFrame
    split
    · next hlock => exact takeSearching_counts time f h hlock
    · next hlock => exact takeAcquiring_counts time f h hlock
    · exact takeFollowing_counts time f h
    · exact takeFollowing_counts time f h
  | missing hwatch => exact takeFailing_counts _ h
  | localTimer hlocal =>
    obtain ⟨hring, hlow, hhigh, hgood, hbad, hzero⟩ := h
    have hlock : cellsReach r.lock = false := by
      by_contra hreach
      simp [localTime, hreach] at hlocal
    have hbad0 : r.badCount = 0 := hzero fun hf => by simp [hf, cellsReach] at hlock
    exact ⟨hring, hlow, hhigh, Nat.zero_le _, hbad, fun _ => hbad0⟩

theorem takeFailing_opening (o : Option Opening) : (r.takeFailing o).opening = o := by
  unfold Rrx.takeFailing
  dsimp only
  split <;> rfl

/-- An event that opens no window leaves each timer running in its states alone. -/
theorem Takes.timers {time : Nat} {j : Taken} (hj : Takes r time j) (hquiet : j.opening = none) (h : TimersOk r) :
    TimersOk j.rrx := by
  have following (f : Frame) (hreach : cellsReach r.lock = true)
      (hnone : (r.takeFollowing time f).opening = none) : TimersOk (r.takeFollowing time f).rrx := by
    unfold Rrx.takeFollowing at hnone ⊢
    split
    · exact takeFailing_timers (r := r.countBad) none h hreach
    · next hsoon =>
      rw [if_neg hsoon] at hnone
      split at hnone
      · cases hnone
      · simp [takeFailing_opening] at hnone
  cases hj with
  | frame f =>
    unfold Rrx.takeFrame at hquiet ⊢
    cases hlock : r.lock <;> simp only [hlock] at hquiet ⊢
    case searching =>
      obtain ⟨hwatch, hlocal⟩ := h
      rw [hlock] at hwatch hlocal
      unfold Rrx.takeSearching
      dsimp only
      split
      · split <;> exact ⟨hwatch, rfl⟩
      · exact ⟨hwatch.trans (by rw [Taken.quiet, Rrx.countBad, hlock]),
          hlocal.trans (by rw [Taken.quiet, Rrx.countBad, hlock])⟩
    case acquiring =>
      obtain ⟨hwatch, hlocal⟩ := h
      rw [hlock] at hwatch hlocal
      unfold Rrx.takeAcquiring at hquiet ⊢
      split
      · next hcounted =>
        rw [if_pos hcounted] at hquiet
        split
        · next hnext =>
          rw [if_pos hnext] at hquiet
          cases hquiet
        · exact ⟨hwatch, hlocal⟩
      · exact ⟨hwatch, hlocal⟩
    case locked => exact following f (by rw [hlock]; rfl) hquiet
    case flywheel => exact following f (by rw [hlock]; rfl) hquiet
  | missing hwatch => simp [Rrx.takeMissing, takeFailing_opening] at hquiet
  | localTimer => cases hquiet

/-- The window start sets each timer by the lock state (R137, R138). -/
theorem windowStart_timers (time : Nat) (w : Word) : TimersOk (r.windowStart time w) := by
  unfold TimersOk Rrx.windowStart
  dsimp only
  cases r.lock <;> exact ⟨rfl, rfl⟩

theorem field_lt (w : Word) (hi lo : Nat) : field w hi lo < 2 ^ (hi + 1 - lo) := Nat.mod_lt _ (Nat.two_pow_pos _)

/-- A stored RINGSET entry that is not bad is in its ranges. -/
theorem ringOk_of_good {w : Word} (h : badRing (ringOf w) = false) : ringOk (ringOf w) := by
  simp only [badRing, Bool.or_eq_false_iff, beq_eq_false_iff_ne, decide_eq_false_iff_not] at h
  have htol := field_lt w 3 0
  have hacq := field_lt w 11 4
  exact ⟨Nat.pos_of_ne_zero h.1, Nat.le_of_lt_succ htol, Nat.le_of_not_lt h.2, Nat.le_of_lt_succ hacq⟩

theorem receiverInv_keptInWindow : KeptInWindow ReceiverInv where
  cmu _ _ h := h
  effect c args s _ h := by
    have hacts := effect_acts s args c
    have hring := hacts.ringset
    obtain ⟨_, _, _, _, _, _, _, _, _, _, _, _, _, _, _, _, e⟩ := hacts.frame
    rw [e] at hring ⊢
    obtain ⟨hstored, hrest⟩ := h
    exact ⟨hring.elim (fun h => h ▸ hstored) ringOk_of_good, hrest⟩
  mark s h := by
    obtain ⟨_, _, e⟩ := takeMark_frame (s := s)
    rwa [e]
  shed _ _ _ _ h := h

theorem receiverInv_kept : KeptByParts ReceiverInv where
  toKeptInWindow := receiverInv_keptInWindow
  pending _ _ h := h
  powerOn straps time s _ := by
    have hring : ringOk (ringOf Tables.initial.ringset) ∧ ringOk State.reset.rrx.ringset := by
      unfold ringOk
      decide
    have hperiod : 461 ≤ State.reset.rrx.period ∧ State.reset.rrx.period ≤ 563 := by decide
    exact (receiverInv_iff _).2
      ⟨hring.1, ⟨hring.2, hperiod.1, hperiod.2, Nat.zero_le _, Nat.zero_le _, fun _ => rfl⟩, rfl, rfl⟩
  closed _ h := h
  ended s _ _ h := by
    obtain ⟨_, _, _, _, _, _, _, _, _, _, _, _, _, _, e⟩ := endWindow_frame s
    rwa [e]
  opened s time j o hj _ _ h := by
    obtain ⟨hstored, hcounts, _⟩ := (receiverInv_iff s).1 h
    refine receiverInv_keptInWindow.openWindow (fun _ ht => ht) time j o ?_
    rw [receiverInv_iff, windowStaged_tables, windowStaged_rrx, windowStart_tables, windowStart_rrx]
    obtain ⟨_, hperiod⟩ := hj.counts hcounts
    exact ⟨hstored, ⟨hstored, hperiod⟩, windowStart_timers _ _⟩
  quiet s time j hj hquiet h := by
    obtain ⟨hstored, hcounts, htimers⟩ := (receiverInv_iff s).1 h
    exact (receiverInv_iff _).2 ⟨hstored, hj.counts hcounts, hj.timers hquiet htimers⟩
  refresh _ _ _ _ h := h
  forgiven s i h := by
    obtain ⟨_, e⟩ := forgiveDetector_frame i s
    rwa [e]
  recovered _ _ h := h
  tripped s i h := by
    obtain ⟨_, _, e⟩ := tripDetector_frame i s
    rwa [e]
  levelFinish s h := by
    obtain ⟨_, _, e⟩ := levelFinishNow_frame s
    rwa [e]
  decayFinish s h := by
    obtain ⟨_, _, e⟩ := decayFinishNow_frame s
    rwa [e]

/-- Settles O54: an event keeps the counts and the period, and the window start sets the timers. -/
theorem stepsKeepTheReceiver : Obligations.StepsKeepTheReceiver := fun _ _ => receiverInv_kept.step

end Sys2Proof.Machine
end

section
/-! The shadow lock (R70, R76, R77): each move of the scene leaves it where R77 has it, and a load that is OPEN finds the
shadow bank free. -/

namespace Sys2Proof.Machine

/-- The scene's part of its invariant: the target, the ramp position, the lock and the due swap. -/
def SceneOk (c : Scc) (inWindow : Bool) : Prop :=
  (c.target.isSome = true ↔ c.scene = .fadeOut) ∧ (c.scene = .held → c.ramp = 0) ∧
  (c.shadowLocked = true ↔ c.scene = .armed ∨ swapTarget c.target = true ∨ c.swapDue = true) ∧
  (c.swapDue = true → inWindow = true ∧ c.scene ≠ .armed ∧ swapTarget c.target = false)

/-- The loader's part: a load that is OPEN is on the shadow bank, which is free. -/
def LoadOk (c : Scc) (l : Tld) : Prop := l.isOpen = true → c.shadowLocked = false ∧ l.bank = c.active.other

theorem sceneInv_iff (s : State) : SceneInv s ↔ SceneOk s.scc s.inWindow ∧ LoadOk s.scc s.tld := by
  have hlock : s.scc.shadowLocked = (s.scc.scene == .armed || swapTarget s.scc.target || s.scc.swapDue) ↔
      (s.scc.shadowLocked = true ↔
        s.scc.scene = .armed ∨ swapTarget s.scc.target = true ∨ s.scc.swapDue = true) := by
    rw [Bool.eq_iff_iff]
    simp [or_assoc]
  constructor
  · rintro ⟨htarget, hramp, hlocked, hdue, hload⟩
    exact ⟨⟨htarget, hramp, hlock.1 hlocked, hdue⟩, hload⟩
  · rintro ⟨⟨htarget, hramp, hlocked, hdue⟩, hload⟩
    exact ⟨htarget, hramp, hlock.2 hlocked, hdue, hload⟩

@[simp] theorem swapTarget_none : swapTarget none = false := rfl
@[simp] theorem swapTarget_hold : swapTarget (some .hold) = false := rfl
@[simp] theorem swapTarget_swapFadeIn : swapTarget (some .swapFadeIn) = true := rfl
@[simp] theorem swapTarget_swapHold : swapTarget (some .swapHold) = true := rfl

variable {s : State}

/-! ### The commands -/

/-- The words of a load neither open a load nor change its bank. -/
theorem loadWords_tld (ws : List Word) (r : State × Nat) : (ws.foldl loadWord r).1.tld.bank = r.1.tld.bank ∧
    ((ws.foldl loadWord r).1.tld.isOpen = true → r.1.tld.isOpen = true) := by
  induction ws generalizing r with
  | nil => exact ⟨rfl, id⟩
  | cons w ws ih =>
    have hone : (loadWord r w).1.tld.bank = r.1.tld.bank ∧
        ((loadWord r w).1.tld.isOpen = true → r.1.tld.isOpen = true) := by
      unfold loadWord completeEntry Tld.closed
      dsimp only
      (repeat' split) <;> simp_all
    exact ⟨(ih _).1.trans hone.1, fun h => hone.2 ((ih _).2 h)⟩

theorem SceneMove.ok {scc : Scc} (hmove : SceneMove s scc) (hs : SceneOk s.scc s.inWindow) (hl : LoadOk s.scc s.tld) :
    SceneOk scc s.inWindow ∧ LoadOk scc s.tld := by
  obtain ⟨htarget, hramp, hlock, hdue⟩ := hs
  unfold LoadOk at hl ⊢
  unfold SceneOk
  cases hmove
  case cancelFade hscene hswap => rcases hswap with hswap | hswap <;> simp_all
  all_goals simp_all

/-! ### Swaps and the window end -/

@[simp] theorem swap_scc (s : State) : (swap s).scc = s.scc.swapped := by
  obtain ⟨_, h⟩ := swap_frame s
  rw [h]

@[simp] theorem settleSwap_tld (s : State) : (settleSwap s).tld = s.tld := by
  obtain ⟨_, _, _, _, h⟩ := settleSwap_frame s
  rw [h]

@[simp] theorem settleSwap_inWindow (s : State) : (settleSwap s).inWindow = s.inWindow := by
  obtain ⟨_, _, _, _, h⟩ := settleSwap_frame s
  rw [h]

@[simp] theorem sceneWindowEnd_tld (s : State) : (sceneWindowEnd s).tld = s.tld := by
  obtain ⟨_, _, _, _, h⟩ := sceneWindowEnd_frame s
  rw [h]

/-- A swap that was due while the window ran is made, and the lock is free again. -/
theorem settleSwap_ok (hs : SceneOk s.scc true) (hl : LoadOk s.scc s.tld) (hw : s.inWindow = false) :
    SceneOk (settleSwap s).scc false ∧ LoadOk (settleSwap s).scc s.tld := by
  obtain ⟨htarget, hramp, hlock, hdue⟩ := hs
  unfold LoadOk at hl ⊢
  unfold SceneOk
  rcases settleSwap_cases s with ⟨hd, _, e⟩ | ⟨hd, e⟩ <;> rw [e]
  · simp_all [Scc.swapped]
  · simp_all

/-- A swap that may be due is made, or waits for the end of the window that runs. -/
theorem settleSwap_sceneInv (hs : SceneOk s.scc true) (hl : LoadOk s.scc s.tld) : SceneInv (settleSwap s) := by
  rw [sceneInv_iff, settleSwap_inWindow, settleSwap_tld]
  by_cases hw : s.inWindow = true
  · have hstay : settleSwap s = s := by simp [settleSwap, hw]
    rw [hstay, hw]
    exact ⟨hs, hl⟩
  · rw [Bool.not_eq_true] at hw
    rw [hw]
    exact settleSwap_ok hs hl hw

/-- The window-end step keeps the lock: a fade-out that swaps has held it. -/
theorem sceneWindowEnd_ok (hs : SceneOk s.scc true) (hl : LoadOk s.scc s.tld) :
    SceneOk (sceneWindowEnd s).scc true ∧ LoadOk (sceneWindowEnd s).scc s.tld := by
  obtain ⟨htarget, hramp, hlock, hdue⟩ := hs
  unfold LoadOk at hl ⊢
  unfold SceneOk
  rcases sceneWindowEnd_cases s with e | ⟨hscene, _, e⟩ | ⟨hscene, _, e⟩ | ⟨hscene, e⟩ | ⟨hscene, _, _, e⟩ <;> rw [e]
  · simp_all
  · rcases reachZero_cases s with ⟨ht, e⟩ | ⟨ht, e⟩ | ⟨ht | ht, e⟩ <;> rw [e] <;> simp_all [Scc.swapped]
  · simp_all
  · simp_all [reachFull]
  · simp_all

theorem endWindow_ok (h : SceneInv s) (hw : s.inWindow = true) : SceneInv (endWindow s) := by
  obtain ⟨hs, hl⟩ := (sceneInv_iff s).1 h
  rw [hw] at hs
  obtain ⟨_, hbefore⟩ := beforeScene_eq s
  have hscene := sceneWindowEnd_ok (s := beforeScene s) (by rwa [hbefore]) (by rwa [hbefore])
  rcases endWindow_cases s with ⟨_, e⟩ | ⟨hn, _⟩
  · rw [e]
    exact settleSwap_sceneInv hscene.1 (by simpa [endBlocks_eq] using hscene.2)
  · rw [hw] at hn
    cases hn

/-- Every command keeps the lock where it belongs. -/
theorem Acts.scene {t : State} (hacts : Acts s t) (h : SceneInv s) : SceneInv t := by
  obtain ⟨hs, hl⟩ := (sceneInv_iff s).1 h
  cases hacts with
  | opened table direction start count timeout hclosed hlock =>
    exact (sceneInv_iff _).2 ⟨hs, fun _ => ⟨hlock, rfl⟩⟩
  | loaded args hopen =>
    obtain ⟨hbank, hstill⟩ := loadWords_tld args ({ s with tld := { s.tld with idle := some 0 } }, 0)
    obtain ⟨_, _, _, _, e⟩ := loadWords_frame args ({ s with tld := { s.tld with idle := some 0 } }, 0)
    rw [e] at hbank hstill ⊢
    refine (sceneInv_iff _).2 ⟨hs, fun hopen => ?_⟩
    exact hbank ▸ hl (hstill hopen)
  | closed => exact (sceneInv_iff _).2 ⟨hs, fun hopen => by cases hopen⟩
  | moved scc hmove => exact (sceneInv_iff _).2 (hmove.ok hs hl)
  | due hopen hdue hscene =>
    obtain ⟨htarget, hramp, hlock, _⟩ := hs
    have htarget : s.scc.target = none := by simpa [hscene] using htarget
    have hmade : SceneOk { s.scc with shadowLocked := true, swapDue := true } true := by
      simp_all [SceneOk]
    have hload : LoadOk { s.scc with shadowLocked := true, swapDue := true } s.tld := by
      intro h
      rw [hopen] at h
      cases h
    exact settleSwap_sceneInv hmade hload
  | _ => exact h

theorem takeMark_ok (h : SceneInv s) : SceneInv (takeMark s) := by
  obtain ⟨hs, hl⟩ := (sceneInv_iff s).1 h
  obtain ⟨htarget, hramp, hlock, hdue⟩ := hs
  obtain ⟨_, e⟩ := surveyTrigger_frame (sceneMark s) .mark
  rw [sceneInv_iff, takeMark, e]
  unfold LoadOk at hl ⊢
  unfold SceneOk
  rcases sceneMark_cases s with ⟨hscene, e⟩ | ⟨_, e⟩ <;> rw [e]
  · simp_all
  · exact ⟨⟨htarget, hramp, hlock, hdue⟩, hl⟩

theorem sceneInv_keptInWindow : KeptInWindow SceneInv where
  cmu _ _ h := h
  effect c args s _ h := (effect_acts s args c).scene h
  mark _ := takeMark_ok
  shed _ _ _ _ h := h

@[simp] theorem countIdle_isOpen (l : Tld) : l.countIdle.isOpen = l.isOpen := by
  rcases countIdle_cases l with ⟨_, _, _, e⟩ | e <;> rw [e]

@[simp] theorem countIdle_bank (l : Tld) : l.countIdle.bank = l.bank := by
  rcases countIdle_cases l with ⟨_, _, _, e⟩ | e <;> rw [e]

/-- The loader after the window start and the idle timer: as it was but for the timer, or CLOSED. -/
theorem windowStaged_load (time : Nat) (j : Taken) (o : Opening) (d : Nat) :
    (windowStaged o d (windowStart time j s)).tld.bank = s.tld.bank ∧
    ((windowStaged o d (windowStart time j s)).tld.isOpen = true → s.tld.isOpen = true) := by
  obtain ⟨_, _, tld, htld, e⟩ := windowStaged_eq o d (windowStart time j s)
  obtain ⟨_, tld', _, htld', hstart⟩ := windowStart_eq s time j
  have htake : (windowStart time j s).tld = tld' := by rw [hstart, startBlocks_tld]
  rw [htake] at htld
  have hstaged : (windowStaged o d (windowStart time j s)).tld = tld := by rw [e]; rfl
  rw [hstaged]
  rcases htld with rfl | rfl <;> rcases htld' with rfl | rfl <;> simp [Tld.closed]

theorem sceneInv_kept : KeptByParts SceneInv where
  toKeptInWindow := sceneInv_keptInWindow
  pending _ _ h := h
  powerOn straps time s _ := by
    simp [SceneInv, powerOn, State.reset]
  closed s h := by
    obtain ⟨hs, _⟩ := (sceneInv_iff s).1 h
    exact (sceneInv_iff _).2 ⟨hs, fun hopen => by cases hopen⟩
  ended s hw _ h := endWindow_ok h hw
  opened s time j o _ _ hw h := by
    obtain ⟨⟨htarget, hramp, hlock, hdue⟩, hl⟩ := (sceneInv_iff s).1 h
    refine sceneInv_keptInWindow.openWindow (fun t ht => ?_) time j o ?_
    · obtain ⟨hs, _⟩ := (sceneInv_iff t).1 ht
      exact (sceneInv_iff _).2 ⟨hs, fun hopen => by cases hopen⟩
    · obtain ⟨hbank, hopen⟩ := windowStaged_load (s := s) time j o s.draws
      rw [sceneInv_iff]
      unfold LoadOk at hl ⊢
      simp only [windowStaged_scc, windowStart_scc, windowStaged_inWindow, hbank]
      split
      · exact ⟨by simp [SceneOk, Scc.restarted], fun h => ⟨rfl, (hl (hopen h)).2⟩⟩
      · exact ⟨⟨htarget, hramp, hlock, fun h => ⟨rfl, (hdue h).2⟩⟩, fun h => hl (hopen h)⟩
  quiet _ _ _ _ _ h := h
  refresh _ _ _ _ h := h
  forgiven s i h := by
    obtain ⟨_, e⟩ := forgiveDetector_frame i s
    rwa [e]
  recovered _ _ h := h
  tripped s i h := by
    obtain ⟨_, _, e⟩ := tripDetector_frame i s
    rwa [e]
  levelFinish s h := by
    obtain ⟨_, _, e⟩ := levelFinishNow_frame s
    rwa [e]
  decayFinish s h := by
    obtain ⟨_, _, e⟩ := decayFinishNow_frame s
    rwa [e]

/-- Settles O55: a scene command, a mark and a window end each leave the lock where R77 has it. -/
theorem stepsKeepTheShadowLock : Obligations.StepsKeepTheShadowLock := fun _ _ => sceneInv_kept.step

end Sys2Proof.Machine
end

section
/-! The loader (R185 to R191): a load stays inside its table, and its idle timer below its limit. Inside a window start
the timer may stand at its limit, where an expiry that waits for the frame's cell is due (R191). -/

namespace Sys2Proof.Machine

/-- The idle timer runs below a limit. -/
def IdleBelow (limit : Nat) (idle : Option Nat) : Prop := ∃ n, idle = some n ∧ n < limit

theorem IdleBelow.mono {a b : Nat} {idle : Option Nat} (hle : a ≤ b) (h : IdleBelow a idle) : IdleBelow b idle := by
  obtain ⟨n, hn, hlt⟩ := h
  exact ⟨n, hn, hlt.trans_le hle⟩

/-- An OPEN loader: a run inside its table, a partial entry of at most two words, and an idle timer below its limit and
`slack` more. -/
def LoadRuns (slack : Nat) (l : Tld) : Prop :=
  l.partialWords.length < 3 ∧ l.next < l.table.entries ∧
  (l.direction = .descending → l.remaining ≤ l.next) ∧
  (l.direction ≠ .descending → l.next + l.remaining < l.table.entries) ∧
  1 ≤ l.timeout ∧ IdleBelow (l.timeout * 1024 + slack) l.idle

variable {slack : Nat} {s : State}

/-- The loader: CLOSED it holds nothing, and OPEN its run and its timer are in their ranges. -/
def LoaderOk (slack : Nat) (l : Tld) : Prop :=
  (l.isOpen = false → l.partialWords = [] ∧ l.remaining = 0 ∧ l.idle = none) ∧ (l.isOpen = true → LoadRuns slack l)

theorem loaderInv_iff (s : State) : LoaderInv s ↔ LoaderOk 0 s.tld := by
  unfold LoaderInv LoaderOk LoadRuns
  refine and_congr_right fun _ => imp_congr_right fun _ => ?_
  rw [Nat.add_zero]
  constructor
  · rintro ⟨hpartial, hnext, hdown, hup, n, hidle, hn⟩
    have htimeout : 1 ≤ s.tld.timeout := by omega
    exact ⟨hpartial, hnext, hdown, hup, htimeout, n, hidle, hn⟩
  · rintro ⟨hpartial, hnext, hdown, hup, _, hidle⟩
    exact ⟨hpartial, hnext, hdown, hup, hidle⟩

/-- A timer that has just been set runs below the limit. -/
theorem idle_set {timeout : Nat} (htimeout : 1 ≤ timeout) : IdleBelow (timeout * 1024 + slack) (some 0) :=
  ⟨0, rfl, by omega⟩

theorem closed_ok (slack : Nat) (l : Tld) : LoaderOk slack l.closed := ⟨fun _ => ⟨rfl, rfl, rfl⟩, fun h => by cases h⟩

theorem open_ok {slack : Nat} {l : Tld} (hopen : l.isOpen = true) (h : LoadRuns slack l) : LoaderOk slack l :=
  ⟨fun hclosed => by simp [hopen] at hclosed, fun _ => h⟩

/-! ### The commands -/

/-- A complete entry moves one index on inside the table, or completes the load (R187, R188). -/
theorem completeEntry_ok (e : Triple) (hopen : s.tld.isOpen = true) (h : LoadRuns slack s.tld) :
    LoaderOk slack (completeEntry e s).tld := by
  obtain ⟨hpartial, hnext, hdown, hup, htimeout, hidle⟩ := h
  unfold completeEntry
  dsimp only
  split
  · exact closed_ok _ _
  · next hdir =>
    dsimp only
    split
    · exact closed_ok _ _
    · next hmore =>
      have hroom := hup (by simp [hdir])
      exact open_ok hopen ⟨by simp, by dsimp only; omega, fun h => by simp [hdir] at h,
        fun _ => by dsimp only; omega, htimeout, hidle⟩
  · next hdir =>
    dsimp only
    split
    · exact closed_ok _ _
    · have hroom := hdown hdir
      exact open_ok hopen ⟨by simp, by dsimp only; omega, fun _ => by dsimp only; omega,
        fun h => absurd hdir h, htimeout, hidle⟩

theorem loadWord_ok (n : Nat) (w : Word) (h : LoaderOk slack s.tld) : LoaderOk slack (loadWord (s, n) w).1.tld := by
  unfold loadWord
  dsimp only
  split
  · next hopen =>
    obtain ⟨hpartial, hrest⟩ := h.2 hopen
    split
    · next hlen => exact open_ok hopen ⟨hlen, hrest⟩
    · exact completeEntry_ok _ hopen (h.2 hopen)
  · exact h

theorem loadWords_ok (ws : List Word) (r : State × Nat) (h : LoaderOk slack r.1.tld) :
    LoaderOk slack (ws.foldl loadWord r).1.tld := by
  induction ws generalizing r with
  | nil => exact h
  | cons w ws ih => exact ih _ (loadWord_ok r.2 w h)

theorem Acts.loader {t : State} (hacts : Acts s t) (h : LoaderOk slack s.tld) : LoaderOk slack t.tld := by
  cases hacts with
  | opened table direction start count timeout _ _ htimeout hcount hrun =>
    refine open_ok rfl ⟨by simp, ?_, ?_, ?_, Nat.pos_of_ne_zero htimeout,
      idle_set (Nat.pos_of_ne_zero htimeout)⟩ <;>
      cases direction <;> simp_all [runLeaves] <;> omega
  | loaded args hopen =>
    obtain ⟨hpartial, hnext, hdown, hup, htimeout, _⟩ := h.2 hopen
    exact loadWords_ok args _ (open_ok hopen ⟨hpartial, hnext, hdown, hup, htimeout, idle_set htimeout⟩)
  | closed => exact closed_ok _ _
  | due =>
    rw [settleSwap_tld]
    exact h
  | _ => exact h

theorem loaderOk_keptInWindow (slack : Nat) : KeptInWindow fun s => LoaderOk slack s.tld where
  cmu _ _ h := h
  effect c args s _ h := (effect_acts s args c).loader h
  mark s h := by
    obtain ⟨_, _, e⟩ := takeMark_frame (s := s)
    rwa [e]
  shed _ _ _ _ h := h

/-! ### The idle timer at a window start -/

theorem countIdle_ok {l : Tld} (h : LoaderOk 0 l) : LoaderOk 1 l.countIdle := by
  rcases countIdle_cases l with ⟨n, hopen, hidle, e⟩ | e <;> rw [e]
  · obtain ⟨hpartial, hnext, hdown, hup, htimeout, m, hm, hlt⟩ := h.2 hopen
    obtain rfl : n = m := by simpa [hidle] using hm
    exact open_ok hopen ⟨hpartial, hnext, hdown, hup, htimeout, n + 1, rfl, Nat.add_lt_add_right hlt 1⟩
  · refine ⟨h.1, fun hopen => ?_⟩
    obtain ⟨hpartial, hnext, hdown, hup, htimeout, hidle⟩ := h.2 hopen
    exact ⟨hpartial, hnext, hdown, hup, htimeout, hidle.mono (Nat.add_le_add_left (Nat.zero_le 1) _)⟩

/-- An expiry that is not due leaves the timer below its limit. -/
theorem below_limit {l : Tld} (h : LoaderOk 1 l) (hdue : idleDue l = false) : LoaderOk 0 l := by
  refine ⟨h.1, fun hopen => ?_⟩
  obtain ⟨hpartial, hnext, hdown, hup, htimeout, n, hn, hlt⟩ := h.2 hopen
  have hne : n ≠ l.timeout * 1024 := by simpa [idleDue, hopen, hn] using hdue
  refine ⟨hpartial, hnext, hdown, hup, htimeout, n, hn, ?_⟩
  generalize l.timeout * 1024 = limit at hlt hne ⊢
  omega

theorem windowStaged_loader (time : Nat) (j : Taken) (o : Opening) (d : Nat) (h : LoaderOk 0 s.tld) :
    LoaderOk 1 (windowStaged o d (windowStart time j s)).tld := by
  obtain ⟨_, _, tld, htld, e⟩ := windowStaged_eq o d (windowStart time j s)
  obtain ⟨_, tld', _, htld', hstart⟩ := windowStart_eq s time j
  have htake : (windowStart time j s).tld = tld' := by rw [hstart, startBlocks_tld]
  have hstaged : (windowStaged o d (windowStart time j s)).tld = tld := by rw [e]; rfl
  have htook : LoaderOk 0 tld' := by
    rcases htld' with rfl | rfl
    · exact h
    · exact closed_ok _ _
  rw [hstaged]
  rw [htake] at htld
  rcases htld with rfl | rfl
  · exact countIdle_ok htook
  · exact closed_ok _ _

theorem openWindow_loader (time : Nat) (j : Taken) (o : Opening) (h : LoaderOk 0 s.tld) :
    LoaderOk 0 (openWindow time j o s).tld := by
  rw [openWindow_eq]
  generalize hu : deliver _ _ _ _ = u
  have hdelivered : LoaderOk 1 u.tld := hu ▸ (loaderOk_keptInWindow 1).deliver _ _ _ (windowStaged_loader time j o _ h)
  rcases settleExpiry_cases u with ⟨_, e⟩ | ⟨hdue, e⟩ <;> rw [e]
  · obtain ⟨_, _, f⟩ := expireLoad_frame u u.rtx.number
    rw [f]
    exact closed_ok _ _
  · exact below_limit hdelivered hdue

theorem loaderOk_kept : KeptByParts fun s => LoaderOk 0 s.tld where
  toKeptInWindow := loaderOk_keptInWindow 0
  pending _ _ h := h
  powerOn _ _ _ _ := closed_ok 0 State.reset.tld
  closed _ _ := closed_ok _ _
  ended s _ _ h := by rwa [endWindow_tld]
  opened s time j o _ _ _ h := openWindow_loader time j o h
  quiet _ _ _ _ _ h := h
  refresh _ _ _ _ h := h
  forgiven s i h := by
    obtain ⟨_, e⟩ := forgiveDetector_frame i s
    rwa [e]
  recovered _ _ h := h
  tripped s i h := by
    obtain ⟨_, _, e⟩ := tripDetector_frame i s
    rwa [e]
  levelFinish s h := by
    obtain ⟨_, _, e⟩ := levelFinishNow_frame s
    rwa [e]
  decayFinish s h := by
    obtain ⟨_, _, e⟩ := decayFinishNow_frame s
    rwa [e]

/-- Settles O59: a complete entry moves a load inside its table, and an expiry that is due is taken before the window
start is over. -/
theorem stepsKeepTheLoader : Obligations.StepsKeepTheLoader := by
  intro s t h hs
  rw [loaderInv_iff] at h ⊢
  exact loaderOk_kept.step h hs

end Sys2Proof.Machine
end

section
/-! The energy of a sample and the envelopes that follow it stay within 2^46 (R97, R199, R202). -/

namespace Sys2Proof.Machine

theorem toInt_sample_range (x : Sample) : -8388608 ≤ x.toInt ∧ x.toInt ≤ 8388607 := by
  have hlow := x.le_toInt
  have hhigh := x.toInt_lt
  omega

theorem natAbs_sample_le (x : Sample) : x.toInt.natAbs ≤ 8388608 := by
  have := toInt_sample_range x
  omega

theorem energy_eq (x : Sample) : energy x = x.toInt.natAbs * x.toInt.natAbs := by
  rw [energy, ← Int.natAbs_mul_self, Int.toNat_natCast]

theorem energy_le (x : Sample) : energy x ≤ 2 ^ 46 := by
  rw [energy_eq]
  exact (Nat.mul_le_mul (natAbs_sample_le x) (natAbs_sample_le x)).trans (by decide)

/-- An envelope moves no further than the energy it follows. -/
theorem trackEnvelope_le {v e m d : Nat} (hd : 0 < d) (hv : v ≤ m) (he : e ≤ m) : trackEnvelope v e d ≤ m := by
  have hpos : (0 : Int) < d := by exact_mod_cast hd
  have hstep : ((e : Int) - v) / d ≤ max ((e : Int) - v) 0 := by
    rcases le_total ((e : Int) - v) 0 with hle | hge
    · exact (Int.ediv_nonpos_of_nonpos_of_neg hle hpos).trans (le_max_right _ _)
    · exact (Int.ediv_le_self _ hge).trans (le_max_left _ _)
  unfold trackEnvelope
  omega

end Sys2Proof.Machine
end

section
/-! The survey (R194 to R203): the configuration in force and the one that waits are acceptable, and the measurement
that runs stays within its channels, its windows and its sums. -/

namespace Sys2Proof.Machine

/-- The Survey Unit by itself. -/
def SurveyOk (v : Svu) : Prop :=
  (∀ c, v.config = some c → configOk c) ∧ (∀ c, v.startPending = some c → configOk c) ∧
  (∀ c, v.config = some c → c.trigger = .now → v.triggerPending = false) ∧
  (v.state = .idle → v.config = none ∧ v.startPending = none ∧ v.triggerPending = false) ∧
  (v.startPending.isSome = true → v.state = .waiting ∧ v.config = none) ∧
  (v.state = .waiting → v.startPending.isSome = true ∨ v.config.isSome = true) ∧
  (v.state = .measuring → ∃ c, v.config = some c ∧ v.counter < 2 ^ c.exponent ∧
    v.position < c.group ∧ v.sum ≤ v.counter * 2 ^ 46 ∧ v.peak ≤ 8388608) ∧
  v.envelope ≤ 2 ^ 46

theorem surveyInv_iff (s : State) : SurveyInv s ↔ SurveyOk s.svu := Iff.rfl

variable {v : Svu} {c : SurveyConfig} {s : State}

/-- An IDLE survey holds nothing. -/
theorem idle_ok (hstate : v.state = .idle) (hconfig : v.config = none) (hstart : v.startPending = none)
    (htrigger : v.triggerPending = false) (henvelope : v.envelope ≤ 2 ^ 46) : SurveyOk v := by
  simp [SurveyOk, hstate, hconfig, hstart, htrigger, henvelope, -Nat.reducePow]

/-- A survey that waits with a configuration in force. -/
theorem waiting_ok (hstate : v.state = .waiting) (hconfig : v.config = some c) (hc : configOk c)
    (hstart : v.startPending = none) (htrigger : c.trigger = .now → v.triggerPending = false)
    (henvelope : v.envelope ≤ 2 ^ 46) : SurveyOk v := by
  simpa [SurveyOk, hstate, hconfig, hstart, henvelope, hc, -Nat.reducePow] using htrigger

/-- A measurement that runs. -/
theorem measuring_ok (hstate : v.state = .measuring) (hconfig : v.config = some c) (hc : configOk c)
    (hstart : v.startPending = none) (htrigger : c.trigger = .now → v.triggerPending = false)
    (hcounter : v.counter < 2 ^ c.exponent) (hposition : v.position < c.group) (hsum : v.sum ≤ v.counter * 2 ^ 46)
    (hpeak : v.peak ≤ 8388608) (henvelope : v.envelope ≤ 2 ^ 46) : SurveyOk v := by
  refine ⟨by simpa [hconfig] using hc, by simp [hstart], by simpa [hconfig] using htrigger, by simp [hstate],
    by simp [hstart], by simp [hstate], fun _ => ⟨c, hconfig, hcounter, hposition, hsum, hpeak⟩, henvelope⟩

/-- What a measurement that runs knows of itself. -/
theorem SurveyOk.measuring (h : SurveyOk v) (hstate : v.state = .measuring) : v.startPending = none ∧
    ∃ c, v.config = some c ∧ configOk c ∧ (c.trigger = .now → v.triggerPending = false) ∧
      v.counter < 2 ^ c.exponent ∧ v.position < c.group ∧ v.sum ≤ v.counter * 2 ^ 46 ∧ v.peak ≤ 8388608 := by
  obtain ⟨hconfig, _, htrigger, _, hstart, _, hrun, _⟩ := h
  obtain ⟨c, hc, hrun⟩ := hrun hstate
  refine ⟨?_, c, hc, hconfig c hc, htrigger c hc, hrun⟩
  cases hs : v.startPending with
  | none => rfl
  | some d => simp [hs, hstate] at hstart

theorem SurveyOk.envelope_le (h : SurveyOk v) : v.envelope ≤ 2 ^ 46 := h.2.2.2.2.2.2.2

theorem group_pos (hc : configOk c) : 0 < c.group := by
  obtain ⟨_, _, hfits, _⟩ := hc
  rcases Nat.eq_zero_or_pos c.group with hzero | hpos
  · rw [hzero] at hfits
    cases hm : c.mode <;> simp [hm, groupFits] at hfits
  · exact hpos

theorem surveyConfigOf_ok {args : List Word} (h : surveyConfigOf args = some c) : configOk c := by
  unfold surveyConfigOf at h
  split at h
  · next mode trigger _ _ =>
    dsimp only at h
    split at h
    · cases h
    · next hgood =>
      cases h
      simp only [not_or, not_and, not_not] at hgood
      obtain ⟨hnow, hlow, hhigh, hfits, _, hlast⟩ := hgood
      exact ⟨by dsimp only; omega, by dsimp only; omega, hfits, by dsimp only; omega, hnow⟩
  · cases h
  · cases h

/-! ### Commands and triggers -/

/-- A trigger other than NOW makes a trigger pending in a survey that has a configuration for it. -/
theorem SurveyOk.trigger {k : Trigger} (hk : k ≠ .now) (h : SurveyOk s.svu) : SurveyOk (surveyTrigger k s).svu := by
  rcases surveyTrigger_cases k s with e | ⟨c, hstate, hstart, hconfig, htrigger, e⟩ <;> rw [e]
  · exact h
  · obtain ⟨hok, hpending, _, _, hwait, hwaiting, hrun, henvelope⟩ := h
    refine ⟨hok, hpending, fun d hd hnow => ?_, fun hidle => absurd hidle hstate, hwait, hwaiting, hrun, henvelope⟩
    obtain rfl : c = d := by simpa [hconfig] using hd
    exact absurd (htrigger.symm.trans hnow) hk

theorem SurveyOk.swap (h : SurveyOk s.svu) : SurveyOk (swap s).svu := SurveyOk.trigger (by decide) h

theorem SurveyOk.settleSwap (h : SurveyOk s.svu) : SurveyOk (settleSwap s).svu := by
  rcases settleSwap_cases s with ⟨_, _, e⟩ | ⟨_, e⟩ <;> rw [e]
  · exact h.swap
  · exact h

theorem Acts.survey {t : State} (hacts : Acts s t) (h : SurveyOk s.svu) : SurveyOk t.svu := by
  cases hacts with
  | loaded args =>
    obtain ⟨_, _, _, _, e⟩ := loadWords_frame args ({ s with tld := { s.tld with idle := some 0 } }, 0)
    rwa [e]
  | due => exact SurveyOk.settleSwap h
  | surveyed c args hc =>
    have hok := surveyConfigOf_ok hc
    simpa [SurveyOk, Svu.emptied, hok] using h.envelope_le
  | stopped => exact idle_ok rfl rfl rfl rfl h.envelope_le
  | _ => exact h

theorem SurveyOk.mark (h : SurveyOk s.svu) : SurveyOk (takeMark s).svu := by
  refine SurveyOk.trigger (by decide) ?_
  rcases sceneMark_cases s with ⟨_, e⟩ | ⟨_, e⟩ <;> rwa [e]

theorem surveyOk_keptInWindow : KeptInWindow fun s => SurveyOk s.svu where
  cmu _ _ h := h
  effect c args s _ h := (effect_acts s args c).survey h
  mark _ h := h.mark
  shed _ _ _ _ h := h

/-! ### The window start -/

/-- A measurement that begins has its sums empty. -/
theorem begin_ok (hconfig : v.config = some c) (hc : configOk c) (hstart : v.startPending = none)
    (henvelope : v.envelope ≤ 2 ^ 46) : SurveyOk v.begin := by
  unfold Svu.begin
  simp only [hconfig]
  split <;>
    exact measuring_ok rfl rfl hc hstart (fun _ => rfl) (Nat.two_pow_pos _) (group_pos hc) (Nat.zero_le _)
      (Nat.zero_le _) henvelope

theorem SurveyOk.windowStart (restart : Bool) (h : SurveyOk v) : SurveyOk (v.windowStart restart) := by
  unfold Svu.windowStart
  cases restart with
  | true =>
    have hidle : SurveyOk v.restarted := idle_ok rfl rfl rfl rfl (Nat.zero_le _)
    simpa [Svu.takeConfig, Svu.restarted] using hidle
  | false =>
    dsimp only [Bool.false_eq_true, if_false]
    obtain ⟨hok, hpending, htrigger, hidle, hwait, hwaiting, hrun, henvelope⟩ := id h
    cases hstart : v.startPending with
    | none =>
      have hsame : v.takeConfig = v := by simp [Svu.takeConfig, hstart]
      rw [if_neg Bool.false_ne_true, hsame]
      split
      · next hbegin =>
        obtain ⟨hpend, hstate⟩ : v.triggerPending = true ∧ v.state ≠ .idle := by simpa using hbegin
        have hconfig : ∃ c, v.config = some c := by
          cases hs : v.state with
          | idle => exact absurd hs hstate
          | waiting => simpa [hstart, Option.isSome_iff_exists] using hwaiting hs
          | measuring => exact (hrun hs).imp fun c hc => hc.1
        obtain ⟨c, hconfig⟩ := hconfig
        exact begin_ok hconfig (hok c hconfig) hstart henvelope
      · exact h
    | some c =>
      have hc := hpending c hstart
      have hstate := (hwait (by simp [hstart])).1
      rw [if_neg Bool.false_ne_true]
      split
      · refine begin_ok (c := c) ?_ hc ?_ ?_ <;> simp [Svu.takeConfig, hstart]
      · next hrest =>
        refine waiting_ok (c := c) ?_ ?_ hc ?_ (fun hnow => ?_) ?_ <;>
          simp_all [Svu.takeConfig, Svu.emptied]

/-! ### The window end -/

theorem again_ok {position : Nat} (hstate : v.state = .measuring) (hconfig : v.config = some c) (hc : configOk c)
    (hstart : v.startPending = none) (htrigger : c.trigger = .now → v.triggerPending = false)
    (hposition : position < c.group) (henvelope : v.envelope ≤ 2 ^ 46) : SurveyOk (v.again position) :=
  measuring_ok hstate hconfig hc hstart htrigger (Nat.two_pow_pos _) hposition (Nat.zero_le _) (Nat.zero_le _)
    henvelope

theorem rest_ok (hconfig : v.config = some c) (hc : configOk c) (hstart : v.startPending = none)
    (htrigger : c.trigger = .now → v.triggerPending = false) (henvelope : v.envelope ≤ 2 ^ 46) :
    SurveyOk (v.rest c) := by
  unfold Svu.rest
  split
  · next hnow => exact idle_ok rfl rfl hstart (htrigger hnow) henvelope
  · exact waiting_ok rfl hconfig hc hstart htrigger henvelope

/-- A level measurement that finishes goes on by its mode. -/
theorem finishLevel_ok (hstate : s.svu.state = .measuring) (hconfig : s.svu.config = some c) (hc : configOk c)
    (hmode : c.mode ≠ .decay) (hstart : s.svu.startPending = none)
    (htrigger : c.trigger = .now → s.svu.triggerPending = false) (henvelope : s.svu.envelope ≤ 2 ^ 46) :
    SurveyOk (finishLevel c s).svu := by
  have hagain {position : Nat} (hposition : position < c.group) :=
    again_ok (v := { s.svu with sequence := s.svu.nextSequence }) hstate hconfig hc hstart htrigger hposition henvelope
  have hrest := rest_ok (v := { s.svu with sequence := s.svu.nextSequence }) hconfig hc hstart htrigger henvelope
  unfold finishLevel Svu.afterLevel
  dsimp only [putResult]
  split
  · exact hrest
  · exact hagain (group_pos hc)
  · split
    · next hmore => exact hagain hmore
    · exact hrest
  · exact hagain (Nat.mod_lt _ (group_pos hc))
  · next hdecay => exact absurd hdecay hmode

theorem finishDecay_ok (hconfig : s.svu.config = some c) (hc : configOk c) (hstart : s.svu.startPending = none)
    (htrigger : c.trigger = .now → s.svu.triggerPending = false) (henvelope : s.svu.envelope ≤ 2 ^ 46) :
    SurveyOk (finishDecay c s).svu :=
  waiting_ok rfl hconfig hc hstart htrigger henvelope

theorem SurveyOk.follow (x : Sample) (h : SurveyOk v) : SurveyOk (v.follow x) := by
  obtain ⟨hok, hpending, htrigger, hidle, hwait, hwaiting, hrun, henvelope⟩ := h
  exact ⟨hok, hpending, htrigger, hidle, hwait, hwaiting, hrun, trackEnvelope_le (by decide) henvelope (energy_le x)⟩

/-- One window added, which finishes the measurement or leaves a count below 2^k. -/
theorem SurveyOk.windowEnd (x : Channels) (h : SurveyOk s.svu) : SurveyOk (surveyWindowEnd x s).svu := by
  unfold surveyWindowEnd
  split
  · exact h
  · exact h
  · next c hstart hconfig =>
    split
    · split
      · exact h
      · exact h.follow _
      · next hmode hstate =>
        obtain ⟨_, d, hd, hc, htrigger, hcounter, hposition, hsum, hpeak⟩ := h.measuring hstate
        obtain rfl : c = d := by simpa [hconfig] using hd
        have henvelope := (h.follow (x.sample c.start)).envelope_le
        dsimp only
        split
        · exact finishDecay_ok hconfig hc hstart htrigger henvelope
        · next hgoes =>
          have hne : s.svu.counter + 1 ≠ 2 ^ c.exponent := fun he => hgoes (by simp [Svu.addDecay, Svu.follow, he])
          refine measuring_ok hstate hconfig hc hstart htrigger (lt_of_le_of_ne hcounter hne) hposition ?_ hpeak henvelope
          exact hsum.trans (Nat.mul_le_mul_right _ (Nat.le_succ _))
    · next hmode =>
      split
      · exact h
      · exact h
      · next hstate =>
        obtain ⟨_, d, hd, hc, htrigger, hcounter, hposition, hsum, hpeak⟩ := h.measuring hstate
        obtain rfl : c = d := by simpa [hconfig] using hd
        dsimp only
        split
        · exact finishLevel_ok hstate hconfig hc hmode hstart htrigger h.envelope_le
        · next hne =>
          refine measuring_ok hstate hconfig hc hstart htrigger (lt_of_le_of_ne hcounter hne) hposition ?_
            (max_le hpeak (natAbs_sample_le _)) h.envelope_le
          exact (Nat.add_le_add hsum (energy_le _)).trans (Nat.succ_mul _ _).ge

theorem sceneWindowEnd_survey (h : SurveyOk s.svu) : SurveyOk (sceneWindowEnd s).svu := by
  rcases sceneWindowEnd_cases s with e | ⟨_, _, e⟩ | ⟨_, _, e⟩ | ⟨_, e⟩ | ⟨_, _, _, e⟩ <;> rw [e]
  case inr.inl =>
    rcases reachZero_cases s with ⟨_, e⟩ | ⟨_, e⟩ | ⟨_, e⟩ <;> rw [e]
    · exact h.swap
    · exact h.swap
    · exact h
  all_goals exact h

theorem SurveyOk.endWindow (h : SurveyOk s.svu) : SurveyOk (endWindow s).svu := by
  rcases endWindow_cases s with ⟨_, e⟩ | ⟨_, e⟩ <;> rw [e]
  · refine SurveyOk.settleSwap (s := { endBlocks s with inWindow := false }) ?_
    show SurveyOk (endBlocks s).svu
    rw [endBlocks_eq]
    refine sceneWindowEnd_survey ?_
    obtain ⟨_, hbefore⟩ := beforeScene_eq s
    rw [hbefore]
    exact h.windowEnd _
  · exact h

theorem SurveyOk.levelFinishNow (h : SurveyOk s.svu) : SurveyOk (levelFinishNow s).svu := by
  unfold Machine.levelFinishNow
  split
  · next c hstate hconfig =>
    obtain ⟨hstart, d, hd, hc, htrigger, _⟩ := h.measuring hstate
    obtain rfl : c = d := by simpa [hconfig] using hd
    split
    · exact h
    · next hmode => exact finishLevel_ok hstate hconfig hc hmode hstart htrigger h.envelope_le
  all_goals exact h

theorem SurveyOk.decayFinishNow (h : SurveyOk s.svu) : SurveyOk (decayFinishNow s).svu := by
  unfold Machine.decayFinishNow
  split
  · next c hstate hconfig =>
    obtain ⟨hstart, d, hd, hc, htrigger, _⟩ := h.measuring hstate
    obtain rfl : c = d := by simpa [hconfig] using hd
    split
    · exact finishDecay_ok hconfig hc hstart htrigger h.envelope_le
    · exact h
  all_goals exact h

theorem surveyOk_kept : KeptByParts fun s => SurveyOk s.svu where
  toKeptInWindow := surveyOk_keptInWindow
  pending _ _ h := h
  powerOn _ _ _ _ := idle_ok rfl rfl rfl rfl (Nat.zero_le _)
  closed _ h := h
  ended _ _ _ h := h.endWindow
  opened s time j o _ _ _ h := by
    refine surveyOk_keptInWindow.openWindow (fun _ ht => ht) time j o ?_
    rw [windowStaged_svu, windowStart_svu]
    exact h.windowStart _
  quiet _ _ _ _ _ h := h
  refresh _ _ _ _ h := h
  forgiven s i h := by
    obtain ⟨_, e⟩ := forgiveDetector_frame i s
    rwa [e]
  recovered _ _ h := h
  tripped s i h := by
    obtain ⟨_, _, e⟩ := tripDetector_frame i s
    rwa [e]
  levelFinish _ h := h.levelFinishNow
  decayFinish _ h := h.decayFinishNow

/-- Settles O60: a measurement that reaches its 2^k windows finishes in the window end that adds the last. -/
theorem stepsKeepTheSurvey : Obligations.StepsKeepTheSurvey := by
  intro s t h hs
  rw [surveyInv_iff] at h ⊢
  exact surveyOk_kept.step h hs

end Sys2Proof.Machine
end

section
/-! The guard (R91 to R109): every detector and every group stays in its ranges. -/

namespace Sys2Proof.Machine

/-! ### One detector -/

section
variable {d : Detector} {e : DetectorEntry}

theorem tripLimit_pos (e : DetectorEntry) : 0 < e.tripLimit := Nat.two_pow_pos _

/-- A detector whose counts and timer have been set to 0. -/
theorem detectorOk_fresh (hentry : badDetector d.entry = false) (hfast : d.fast ≤ 2 ^ 46) (hslow : d.slow ≤ 2 ^ 46)
    (htotal : d.total ≤ 65535) (hdebounce : d.debounce = 0) (htrips : d.trips = 0) (hforgive : d.forgive = 0)
    (hoff : d.entry.enable = false → d.fast = 0 ∧ d.slow = 0) : detectorOk d := by
  refine ⟨hentry, hfast, hslow, htotal, hdebounce ▸ Nat.zero_le _, htrips ▸ tripLimit_pos _, fun hon => ?_,
    fun h => ⟨(hoff h).1, (hoff h).2, hdebounce, htrips, hforgive⟩⟩
  have hne : d.entry.forgiveness ≠ 0 := by
    intro hzero
    simp [badDetector, hon, hzero] at hentry
  omega

theorem takeEntry_ok (he : badDetector e = false) (h : detectorOk d) : detectorOk (d.takeEntry e) := by
  obtain ⟨_, hfast, hslow, htotal, _, _, _, hoff⟩ := id h
  unfold Detector.takeEntry
  split
  · exact h
  · split
    · next hboth =>
      have hon : e.enable = true := by simp_all
      exact detectorOk_fresh he hfast hslow htotal rfl rfl rfl fun h => by simp [hon] at h
    · split
      · exact detectorOk_fresh he (Nat.zero_le _) (Nat.zero_le _) htotal rfl rfl rfl fun _ => ⟨rfl, rfl⟩
      · next hneither =>
        obtain ⟨hfast0, hslow0, hdebounce, htrips, hforgive⟩ := hoff (by simp_all)
        exact detectorOk_fresh he hfast hslow htotal hdebounce htrips hforgive fun _ => ⟨hfast0, hslow0⟩

theorem applyClear_ok (h : detectorOk d) : detectorOk d.applyClear := by
  obtain ⟨hentry, hfast, hslow, htotal, hdebounce, _, hforgive, hoff⟩ := h
  refine ⟨hentry, hfast, hslow, htotal, hdebounce, tripLimit_pos _, fun hon => (Nat.zero_le _).trans_lt (hforgive hon),
    fun h => ?_⟩
  obtain ⟨hfast0, hslow0, hdebounce0, _⟩ := hoff h
  exact ⟨hfast0, hslow0, hdebounce0, rfl, rfl⟩

theorem restarted_ok (h : detectorOk d) : detectorOk d.restarted := by
  obtain ⟨hentry, _, _, htotal, _⟩ := h
  exact detectorOk_fresh hentry (Nat.zero_le _) (Nat.zero_le _) htotal rfl rfl rfl fun _ => ⟨rfl, rfl⟩

theorem zeroTotal_ok (h : detectorOk d) : detectorOk { d with total := 0 } := by
  obtain ⟨hentry, hfast, hslow, _, hrest⟩ := h
  exact ⟨hentry, hfast, hslow, Nat.zero_le _, hrest⟩

/-- An enabled detector in its ranges, without what is said of a disabled one. -/
theorem detectorOk_of_on (hon : d.entry.enable = true) (h : badDetector d.entry = false ∧ d.fast ≤ 2 ^ 46 ∧
    d.slow ≤ 2 ^ 46 ∧ d.total ≤ 65535 ∧ d.debounce ≤ d.entry.debounceWindows ∧ d.trips < d.entry.tripLimit ∧
    d.forgive < d.entry.forgiveness * 1024) : detectorOk d := by
  simpa only [detectorOk, hon, true_imp_iff, Bool.true_eq_false, false_imp_iff, and_true] using h

theorem detectorOk_on (hon : d.entry.enable = true) (h : detectorOk d) : badDetector d.entry = false ∧
    d.fast ≤ 2 ^ 46 ∧ d.slow ≤ 2 ^ 46 ∧ d.total ≤ 65535 ∧ d.debounce ≤ d.entry.debounceWindows ∧
    d.trips < d.entry.tripLimit ∧ d.forgive < d.entry.forgiveness * 1024 := by
  simpa only [detectorOk, hon, true_imp_iff, Bool.true_eq_false, false_imp_iff, and_true] using h

theorem takeTrip_ok (hon : d.entry.enable = true) (h : detectorOk d) : detectorOk d.takeTrip.1 := by
  obtain ⟨hentry, hfast, hslow, _, hdebounce, htrips, hforgive⟩ := detectorOk_on hon h
  have htotal : saturate d.total 1 ≤ 65535 := min_le_right _ _
  have hzero : 0 < d.entry.forgiveness * 1024 := (Nat.zero_le _).trans_lt hforgive
  unfold Detector.takeTrip
  dsimp only
  split
  · exact detectorOk_of_on hon ⟨hentry, hfast, hslow, htotal, hdebounce, htrips, hzero⟩
  · split
    · exact detectorOk_of_on hon ⟨hentry, hfast, hslow, htotal, hdebounce, tripLimit_pos _, hzero⟩
    · next hbelow => exact detectorOk_of_on hon ⟨hentry, hfast, hslow, htotal, hdebounce, not_le.1 hbelow, hzero⟩

theorem forgiven_ok (hon : d.entry.enable = true) (h : detectorOk d) : detectorOk d.forgiven := by
  obtain ⟨hentry, hfast, hslow, htotal, hdebounce, htrips, hforgive⟩ := detectorOk_on hon h
  exact detectorOk_of_on hon ⟨hentry, hfast, hslow, htotal, hdebounce, (Nat.sub_le _ _).trans_lt htrips,
    (Nat.zero_le _).trans_lt hforgive⟩

theorem stepForgiveness_ok (hon : d.entry.enable = true) (h : detectorOk d) : detectorOk d.stepForgiveness := by
  unfold Detector.stepForgiveness
  split
  · exact forgiven_ok hon h
  · next hne =>
    obtain ⟨hentry, hfast, hslow, htotal, hdebounce, htrips, hforgive⟩ := detectorOk_on hon h
    exact detectorOk_of_on hon ⟨hentry, hfast, hslow, htotal, hdebounce, htrips, lt_of_le_of_ne hforgive hne⟩

theorem stepDebounce_entry (rise : Bool) : (d.stepDebounce rise).entry = d.entry := by
  unfold Detector.stepDebounce
  (repeat' split) <;> rfl

theorem stepDebounce_ok (rise : Bool) (hon : d.entry.enable = true) (h : detectorOk d) :
    detectorOk (d.stepDebounce rise) := by
  obtain ⟨hentry, hfast, hslow, htotal, hdebounce, hrest⟩ := detectorOk_on hon h
  unfold Detector.stepDebounce
  split
  · split
    · exact h
    · next hne => exact detectorOk_of_on hon ⟨hentry, hfast, hslow, htotal, lt_of_le_of_ne hdebounce hne, hrest⟩
  · exact detectorOk_of_on hon ⟨hentry, hfast, hslow, htotal, Nat.zero_le _, hrest⟩

theorem follow_ok (x : Sample) (hon : d.entry.enable = true) (h : detectorOk d) : detectorOk (d.follow x) := by
  obtain ⟨hentry, hfast, hslow, hrest⟩ := detectorOk_on hon h
  exact detectorOk_of_on hon ⟨hentry, trackEnvelope_le (by decide) hfast (energy_le x),
    trackEnvelope_le (by decide) hslow (energy_le x), hrest⟩

theorem detectorWindowEnd_ok (x : Sample) (h : detectorOk d) : detectorOk (d.windowEnd x).1 := by
  unfold Detector.windowEnd
  split
  · next hon =>
    have hfollow := follow_ok x hon h
    have hon : (d.follow x).entry.enable = true := hon
    generalize d.follow x = f at hfollow hon ⊢
    dsimp only
    generalize f.rising = rise
    have hstep := stepDebounce_ok rise hon hfollow
    have hon' : (f.stepDebounce rise).entry.enable = true := by rwa [stepDebounce_entry]
    split
    · exact takeTrip_ok hon' hstep
    · exact stepForgiveness_ok hon' hstep
  · exact h

end

/-! ### One group -/

section
variable {g : Group} {e : GroupEntry}

theorem badGroup_eq_false : badGroup e = false ↔ 0 < e.step ∧ e.step ≤ 12 ∧ e.floor ≤ 60 ∧ 0 < e.recovery := by
  simp only [badGroup, Bool.or_eq_false_iff, beq_eq_false_iff_ne, decide_eq_false_iff_not, not_lt, Nat.pos_iff_ne_zero,
    ne_eq, and_assoc]

theorem groupTakeEntry_ok (he : badGroup e = false) (h : groupOk g) : groupOk (g.takeEntry e) := by
  unfold Group.takeEntry
  split
  · exact h
  · obtain ⟨hentry, htarget, happlied, _⟩ := h
    obtain ⟨_, _, hfloor, hrecovery⟩ := badGroup_eq_false.1 he
    obtain ⟨_, _, hold, _⟩ := badGroup_eq_false.1 hentry
    refine ⟨he, ?_, happlied, by dsimp only; omega⟩
    dsimp only [mute] at htarget ⊢
    split
    · exact .inr le_rfl
    · next hstay =>
      simp only [Bool.and_eq_true, decide_eq_true_eq, not_and, not_lt] at hstay
      omega

/-- A group with a new target and its timer at 0. -/
theorem groupOk_set {target : Nat} (htarget : target = mute ∨ target ≤ g.entry.floor) (h : groupOk g) :
    groupOk { g with target := target, timer := 0 } :=
  ⟨h.1, htarget, h.2.2.1, (Nat.zero_le _).trans_lt h.2.2.2⟩

theorem groupApplyClear_ok (h : groupOk g) : groupOk g.applyClear := groupOk_set (.inr (Nat.zero_le _)) h

theorem groupRestarted_ok (h : groupOk g) : groupOk g.restarted :=
  ⟨h.1, .inr (Nat.zero_le _), Nat.zero_le _, (Nat.zero_le _).trans_lt h.2.2.2⟩

theorem reduce_ok (h : groupOk g) : groupOk g.reduce := by
  refine groupOk_set ?_ h
  split
  · exact .inr (min_le_right _ _)
  · exact h.2.1

theorem cut_ok (h : groupOk g) : groupOk g.cut := ⟨h.1, .inl rfl, h.2.2⟩

theorem recover_ok (h : groupOk g) : groupOk g.recover := by
  have htarget := h.2.1
  refine groupOk_set ?_ h
  dsimp only [mute] at htarget ⊢
  split
  · next hrange =>
    simp only [Bool.and_eq_true, decide_eq_true_eq] at hrange
    omega
  · exact htarget

theorem stepRecovery_ok (restarted : Bool) (h : groupOk g) : groupOk (g.stepRecovery restarted) := by
  unfold Group.stepRecovery
  split
  · exact h
  · split
    · exact recover_ok h
    · next hne =>
      obtain ⟨hentry, htarget, happlied, htimer⟩ := h
      exact ⟨hentry, htarget, happlied, lt_of_le_of_ne htimer hne⟩

theorem target_le_mute (h : groupOk g) : g.target ≤ mute := by
  obtain ⟨hentry, htarget, _⟩ := h
  obtain ⟨_, _, hfloor, _⟩ := badGroup_eq_false.1 hentry
  unfold mute at htarget ⊢
  omega

theorem stepToward_le {a t m : Nat} (ha : a ≤ m) (ht : t ≤ m) : stepToward a t ≤ m := by
  unfold stepToward
  (repeat' split) <;> omega

theorem groupWindowEnd_ok (restarted : Bool) (h : groupOk g) : groupOk (g.windowEnd restarted) := by
  have hstep := stepRecovery_ok restarted h
  have happlied := stepToward_le hstep.2.2.1 (target_le_mute hstep)
  obtain ⟨hentry, htarget, _, htimer⟩ := hstep
  exact ⟨hentry, htarget, happlied, htimer⟩

end
end Sys2Proof.Machine
end

section
/-! The guard as a whole, and what every step keeps of it. -/

namespace Sys2Proof.Machine

/-- Every detector and every group in its ranges. -/
def SgdOk (g : Sgd) : Prop := (∀ i, detectorOk (g.detectors.get i)) ∧ ∀ i, groupOk (g.groups.get i)

/-- The stored entries are such as R93 accepts. -/
def GuardTablesOk (t : Tables) : Prop :=
  (∀ i, badDetector (detectorOf (t.detectors.get i)) = false) ∧ ∀ i, badGroup (groupOf (t.groups.get i)) = false

theorem guardInv_iff (s : State) : GuardInv s ↔ GuardTablesOk s.tables ∧ SgdOk s.sgd := by
  unfold GuardInv GuardTablesOk SgdOk
  rw [and_assoc]

variable {s t : State} {g : Sgd}

/-! ### The commands -/

theorem Acts.guardTables (hacts : Acts s t) (h : GuardTablesOk s.tables) : GuardTablesOk t.tables := by
  constructor
  · intro i
    rcases hacts.detectors i with e | hgood
    · exact e ▸ h.1 i
    · exact hgood
  · intro i
    rcases hacts.groups i with e | hgood
    · exact e ▸ h.2 i
    · exact hgood

theorem Acts.guard (hacts : Acts s t) (h : SgdOk s.sgd) : SgdOk t.sgd := by
  cases hacts with
  | zeroed => exact ⟨fun i => by simpa [zeroCounters] using zeroTotal_ok (h.1 i), h.2⟩
  | loaded args =>
    obtain ⟨_, _, _, _, e⟩ := loadWords_frame args ({ s with tld := { s.tld with idle := some 0 } }, 0)
    rwa [e]
  | due =>
    obtain ⟨_, _, _, _, e⟩ := settleSwap_frame { s with scc := { s.scc with shadowLocked := true, swapDue := true } }
    rwa [e]
  | _ => exact h

theorem guardInv_keptInWindow : KeptInWindow GuardInv where
  cmu _ _ h := h
  effect c args s _ h := by
    rw [guardInv_iff] at h ⊢
    exact ⟨(effect_acts s args c).guardTables h.1, (effect_acts s args c).guard h.2⟩
  mark s h := by
    obtain ⟨_, _, e⟩ := takeMark_frame (s := s)
    rwa [e]
  shed _ _ _ _ h := h

/-! ### The window start -/

theorem SgdOk.restarted (h : SgdOk g) : SgdOk g.restarted :=
  ⟨fun i => by simpa [Sgd.restarted] using restarted_ok (h.1 i),
    fun i => by simpa [Sgd.restarted] using groupRestarted_ok (h.2 i)⟩

theorem SgdOk.takeEntries {u : Tables} (hu : GuardTablesOk u) (h : SgdOk g) : SgdOk (g.takeEntries u) :=
  ⟨fun i => by simpa [Sgd.takeEntries] using takeEntry_ok (hu.1 i) (h.1 i),
    fun i => by simpa [Sgd.takeEntries] using groupTakeEntry_ok (hu.2 i) (h.2 i)⟩

theorem SgdOk.applyClears (h : SgdOk g) : SgdOk g.applyClears := by
  constructor
  · intro i
    rw [Sgd.applyClears, Regs.get_tab]
    split
    · exact applyClear_ok (h.1 i)
    · exact h.1 i
  · intro i
    rw [Sgd.applyClears, Regs.get_tab]
    split
    · exact groupApplyClear_ok (h.2 i)
    · exact h.2 i

theorem SgdOk.windowStart {u : Tables} (restart : Bool) (hu : GuardTablesOk u) (h : SgdOk g) :
    SgdOk (g.windowStart restart u) := by
  unfold Sgd.windowStart
  split
  · exact (h.restarted.takeEntries hu).applyClears
  · exact (h.takeEntries hu).applyClears

/-! ### The window end and the guard's own events -/

theorem overflowGroup_ok {groups : Regs Group 8} (e : DetectorEntry) (h : ∀ i, groupOk (groups.get i)) (i : Fin 8) :
    groupOk ((overflowGroup e groups).get i) := by
  unfold overflowGroup
  split
  · exact h i
  · rw [Regs.get_edit]
    split
    · exact reduce_ok (h i)
    · exact h i
  · rw [Regs.get_edit]
    split
    · exact cut_ok (h i)
    · exact h i
  · exact h i

theorem put_ok {detectors : Regs Detector 24} {d : Detector} (hd : detectorOk d)
    (h : ∀ i, detectorOk (detectors.get i)) (i j : Fin 24) : detectorOk ((detectors.put i d).get j) := by
  rw [Regs.get_put]
  split
  · exact hd
  · exact h j

/-- A detector handled at a window end keeps every detector and every group in its ranges. -/
theorem runDetector_ok (x : Regs Sample 24) (r : GuardRun) (i : Fin 24) (hd : ∀ j, detectorOk (r.detectors.get j))
    (hg : ∀ j, groupOk (r.groups.get j)) :
    (∀ j, detectorOk ((r.detector x i).detectors.get j)) ∧ ∀ j, groupOk ((r.detector x i).groups.get j) := by
  have hput := put_ok (detectorWindowEnd_ok (x.get i) (hd i)) hd i
  unfold GuardRun.detector
  dsimp only
  split
  · exact ⟨hput, overflowGroup_ok _ hg⟩
  · exact ⟨hput, hg⟩

theorem foldl_detectors_ok (x : Regs Sample 24) (l : List (Fin 24)) (r : GuardRun)
    (hd : ∀ j, detectorOk (r.detectors.get j)) (hg : ∀ j, groupOk (r.groups.get j)) :
    (∀ j, detectorOk ((l.foldl (GuardRun.detector x) r).detectors.get j)) ∧
      ∀ j, groupOk ((l.foldl (GuardRun.detector x) r).groups.get j) := by
  induction l generalizing r with
  | nil => exact ⟨hd, hg⟩
  | cons i l ih =>
    obtain ⟨hd', hg'⟩ := runDetector_ok x r i hd hg
    exact ih _ hd' hg'

theorem SgdOk.windowEnd (x : Regs Sample 24) (h : SgdOk g) : SgdOk ((g.runDetectors x).finish g) := by
  obtain ⟨hd, hg⟩ := foldl_detectors_ok x (List.finRange 24) ⟨g.detectors, g.groups, [], []⟩ h.1 h.2
  unfold Sgd.runDetectors
  generalize (List.finRange 24).foldl _ _ = r at hd hg ⊢
  refine ⟨hd, fun i => ?_⟩
  rw [GuardRun.finish, Regs.get_tab]
  exact groupWindowEnd_ok _ (hg i)

theorem endWindow_guard (h : SgdOk s.sgd) : SgdOk (endWindow s).sgd := by
  rcases endWindow_cases s with ⟨_, e⟩ | ⟨_, e⟩ <;> rw [e]
  · obtain ⟨_, hbefore⟩ := beforeScene_eq s
    obtain ⟨_, _, _, _, hscene⟩ := sceneWindowEnd_frame (beforeScene s)
    obtain ⟨_, _, _, _, hsettle⟩ := settleSwap_frame { endBlocks s with inWindow := false }
    rw [hsettle, endBlocks_eq, hscene, hbefore]
    exact h.windowEnd _
  · exact h

theorem forgiveDetector_ok (i : Fin 24) (h : SgdOk s.sgd) : SgdOk (forgiveDetector i s).sgd := by
  unfold forgiveDetector
  dsimp only
  split
  · next hon => exact ⟨put_ok (forgiven_ok hon (h.1 i)) h.1 i, h.2⟩
  · exact h

theorem recoverGroup_ok (i : Fin 8) (h : SgdOk s.sgd) : SgdOk (recoverGroup i s).sgd := by
  refine ⟨h.1, fun j => ?_⟩
  rw [recoverGroup, Regs.get_edit]
  split
  · exact recover_ok (h.2 j)
  · exact h.2 j

/-- A trip is taken with the debounce count at D. -/
theorem trip_ok {d : Detector} (hon : d.entry.enable = true) (h : detectorOk d) :
    detectorOk ({ d with debounce := d.entry.debounceWindows }.takeTrip).1 := by
  obtain ⟨hentry, hfast, hslow, htotal, _, hrest⟩ := detectorOk_on hon h
  refine takeTrip_ok (d := { d with debounce := d.entry.debounceWindows }) hon ?_
  exact detectorOk_of_on hon ⟨hentry, hfast, hslow, htotal, le_rfl, hrest⟩

theorem tripDetector_ok (i : Fin 24) (h : SgdOk s.sgd) : SgdOk (tripDetector i s).sgd := by
  unfold tripDetector
  dsimp only
  split
  · next hon =>
    have hput := put_ok (trip_ok hon (h.1 i)) h.1 i
    split
    · obtain ⟨_, e⟩ := overflowNow_frame (s.sgd.detectors.get i).entry { s with sgd := { s.sgd with
        detectors := s.sgd.detectors.put i ({ s.sgd.detectors.get i with
          debounce := (s.sgd.detectors.get i).entry.debounceWindows }.takeTrip).1 } }
      rw [e]
      exact ⟨hput, overflowGroup_ok _ h.2⟩
    · exact ⟨hput, h.2⟩
  · exact h

theorem guardInv_powerOn (straps : BitVec 6) (time : Nat) : GuardInv (powerOn straps time s) := by
  have hdetector : detectorOk Detector.initial :=
    detectorOk_fresh rfl (Nat.zero_le _) (Nat.zero_le _) (Nat.zero_le _) rfl rfl rfl fun _ => ⟨rfl, rfl⟩
  have hgroup : groupOk Group.initial := ⟨rfl, .inr (Nat.zero_le _), Nat.zero_le _, by decide⟩
  have hstored : badGroup (groupOf 0x008283#24) = false := by decide
  have hzero : badDetector (detectorOf ⟨0#24, 0#24⟩) = false := by decide
  simp [GuardInv, powerOn, State.reset, Tables.initial, hdetector, hgroup, hstored, hzero]

theorem guardInv_kept : KeptByParts GuardInv where
  toKeptInWindow := guardInv_keptInWindow
  pending _ _ h := h
  powerOn straps time s _ := guardInv_powerOn straps time
  closed _ h := h
  ended s _ _ h := by
    rw [guardInv_iff] at h ⊢
    refine ⟨?_, endWindow_guard h.2⟩
    obtain ⟨_, _, _, _, _, _, _, _, _, _, _, _, _, _, e⟩ := endWindow_frame s
    rw [e]
    exact h.1
  opened s time j o _ _ _ h := by
    refine guardInv_keptInWindow.openWindow (fun _ ht => ht) time j o ?_
    rw [guardInv_iff] at h ⊢
    rw [windowStaged_tables, windowStaged_sgd, windowStart_tables, windowStart_sgd]
    exact ⟨h.1, h.2.windowStart _ h.1⟩
  quiet _ _ _ _ _ h := h
  refresh _ _ _ _ h := h
  forgiven s i h := by
    rw [guardInv_iff] at h ⊢
    refine ⟨?_, forgiveDetector_ok i h.2⟩
    obtain ⟨_, e⟩ := forgiveDetector_frame i s
    rw [e]
    exact h.1
  recovered s i h := by
    rw [guardInv_iff] at h ⊢
    exact ⟨h.1, recoverGroup_ok i h.2⟩
  tripped s i h := by
    rw [guardInv_iff] at h ⊢
    refine ⟨?_, tripDetector_ok i h.2⟩
    obtain ⟨_, _, e⟩ := tripDetector_frame i s
    rw [e]
    exact h.1
  levelFinish s h := by
    obtain ⟨_, _, e⟩ := levelFinishNow_frame s
    rwa [e]
  decayFinish s h := by
    obtain ⟨_, _, e⟩ := decayFinishNow_frame s
    rwa [e]

/-- Settles O58: each update of a detector and of a group stays in its ranges. -/
theorem stepsKeepTheGuard : Obligations.StepsKeepTheGuard := fun _ _ h hs => guardInv_kept.step h hs

end Sys2Proof.Machine
end

section
/-! Writes of delay lines: an input write and a bus write are one kind of thing, and a run of either keeps the geometry
and costs what its enabled lines cost. -/

namespace Sys2Proof.Machine

/-- A line of a geometry, with another write position and fill count. -/
def Line.moved (l : Line) (wp fill : Nat) : Line := { l with wp := wp, fill := fill }

/-- The write of line `k`: nothing where it is disabled, and otherwise one access, at a position inside the line where its
write position lies inside it, after which the line moves on. -/
def LineWrite (k : Fin 40) (s u : State) : Prop :=
  ((s.lines.get k).rows = 0 ∧ u = s) ∨
  ((s.lines.get k).rows ≠ 0 ∧ ∃ q x wp,
    ((s.lines.get k).wp < (s.lines.get k).length → q < (s.lines.get k).length ∧ wp < (s.lines.get k).length) ∧
    u = { writeLine (s.lines.get k) q x s with
      lines := s.lines.put k ((s.lines.get k).moved wp (min ((s.lines.get k).fill + 1) (s.lines.get k).length)) })

/-- The line of an input channel. -/
def inputLine (i : Fin 24) : Fin 40 := Fin.ofNat 40 i.val

/-- The line of a bus. -/
def busLine (b : Fin 16) : Fin 40 := Fin.ofNat 40 (24 + b.val)

theorem inputLine_val (i : Fin 24) : (inputLine i).val = i.val := Nat.mod_eq_of_lt (by omega)

theorem busLine_val (b : Fin 16) : (busLine b).val = 24 + b.val := Nat.mod_eq_of_lt (by omega)

theorem length_pos {l : Line} (h : l.rows ≠ 0) : 0 < l.length := by
  unfold Line.length
  omega

theorem inputWrite_lineWrite (s : State) (i : Fin 24) : LineWrite (inputLine i) s (inputWrite s i) := by
  unfold inputWrite
  dsimp only
  split
  · next hoff => exact .inl ⟨hoff, rfl⟩
  · next hon =>
    have hpos := length_pos hon
    exact .inr ⟨hon, _, _, _, fun _ => ⟨Nat.mod_lt _ hpos, Nat.mod_lt _ hpos⟩, rfl⟩

theorem busWrite_lineWrite (x : Regs Sample 16) (s : State) (b : Fin 16) :
    LineWrite (busLine b) s (busWrite x s b) := by
  unfold busWrite
  dsimp only
  split
  · next hoff => exact .inl ⟨hoff, rfl⟩
  · next hon => exact .inr ⟨hon, _, _, _, fun hwp => ⟨hwp, Nat.mod_lt _ (length_pos hon)⟩, rfl⟩

variable {s u : State} {k : Fin 40} {ι : Type} {write : State → ι → State} {key : ι → Fin 40}

/-- A write leaves the geometry of every line. -/
theorem LineWrite.geometry (h : LineWrite k s u) (j : Fin 40) :
    (u.lines.get j).base = (s.lines.get j).base ∧ (u.lines.get j).rows = (s.lines.get j).rows := by
  rcases h with ⟨_, rfl⟩ | ⟨_, q, x, wp, _, rfl⟩
  · exact ⟨rfl, rfl⟩
  · dsimp only
    rw [Regs.get_put]
    split
    · next e => exact e ▸ ⟨rfl, rfl⟩
    · exact ⟨rfl, rfl⟩

theorem foldl_writes_geometry (hwrite : ∀ t i, LineWrite (key i) t (write t i)) (l : List ι) (s : State) (j : Fin 40) :
    ((l.foldl write s).lines.get j).base = (s.lines.get j).base ∧
      ((l.foldl write s).lines.get j).rows = (s.lines.get j).rows := by
  induction l generalizing s with
  | nil => exact ⟨rfl, rfl⟩
  | cons i l ih =>
    obtain ⟨hbase, hrows⟩ := (hwrite s i).geometry j
    obtain ⟨hbase', hrows'⟩ := ih (write s i)
    exact ⟨hbase'.trans hbase, hrows'.trans hrows⟩

/-! ### What the writes cost -/

/-- The most that one access costs beside its turnaround (R52, R53). -/
def Timing.accessBound (t : Timing) : Nat := 4 + t.rowWait + t.rowGapEff

theorem scaled_add (t : Timing) (a b : Nat) : t.scaled (a + b) = t.scaled a + t.scaled b := by
  unfold Timing.scaled
  split <;> omega

theorem scaled_mono (t : Timing) {a b : Nat} (h : a ≤ b) : t.scaled a ≤ t.scaled b := by
  unfold Timing.scaled
  split <;> omega

/-- The most that a run of writes costs, by the number of its enabled lines: its turnaround counts once. -/
def writesBound (t : Timing) (turn n : Nat) : Nat := if n = 0 then 0 else t.scaled (turn + n * t.accessBound)

theorem writesBound_succ (t : Timing) (turn n : Nat) :
    t.scaled (turn + t.accessBound) + writesBound t 0 n = writesBound t turn (n + 1) := by
  unfold writesBound
  rw [if_neg (Nat.succ_ne_zero n)]
  split
  · next hzero => rw [hzero, Nat.add_zero, Nat.zero_add, Nat.one_mul]
  · rw [← scaled_add]
    congr 1
    rw [Nat.zero_add, Nat.succ_mul]
    omega

theorem writesBound_mono (t : Timing) {turn turn' n n' : Nat} (hturn : turn ≤ turn') (hn : n ≤ n') :
    writesBound t turn n ≤ writesBound t turn' n' := by
  unfold writesBound
  split
  · exact Nat.zero_le _
  · rw [if_neg (by omega)]
    exact scaled_mono t (Nat.add_le_add hturn (Nat.mul_le_mul_right _ hn))

/-- The enabled lines among those of a run of writes. -/
def enabledOf (key : ι → Fin 40) (l : List ι) (s : State) : Nat := l.countP fun i => (s.lines.get (key i)).rows != 0

theorem foldl_writes_spend (hwrite : ∀ t i, LineWrite (key i) t (write t i)) (l : List ι) (s : State) :
    (l.foldl write s).dmc.timing = s.dmc.timing ∧ (l.foldl write s).dmc.spend ≤
      s.dmc.spend + writesBound s.dmc.timing (s.dmc.timing.turnTerm s.dmc.rowState .write) (enabledOf key l s) := by
  induction l generalizing s with
  | nil => exact ⟨rfl, Nat.le_add_right _ _⟩
  | cons i l ih =>
    obtain ⟨htiming, hspend⟩ := ih (write s i)
    have hrest : enabledOf key l (write s i) = enabledOf key l s := by
      unfold enabledOf
      simp only [((hwrite s i).geometry _).2]
    rw [hrest] at hspend
    rw [List.foldl_cons]
    rcases hwrite s i with ⟨hoff, e⟩ | ⟨hon, q, x, wp, _, e⟩
    · have hcount : enabledOf key (i :: l) s = enabledOf key l s := by simp [enabledOf, hoff]
      rw [e] at htiming hspend ⊢
      rw [hcount]
      exact ⟨htiming, hspend⟩
    · have hcount : enabledOf key (i :: l) s = enabledOf key l s + 1 := by simp [enabledOf, hon]
      rw [hcount, ← writesBound_succ]
      have hone := accessCost_le s.dmc.timing s.dmc.rowState .write (rowOfAddress ((s.lines.get (key i)).address q))
      rw [e] at htiming hspend ⊢
      refine ⟨htiming, hspend.trans ?_⟩
      dsimp only [writeLine, Dmc.rowState] at hone ⊢
      rw [turnTerm_same]
      unfold Timing.accessBound
      omega

/-! ### The two runs of writes of a window -/

theorem inputStage_geometry (s : State) (j : Fin 40) : ((inputStage s).lines.get j).base = (s.lines.get j).base ∧
    ((inputStage s).lines.get j).rows = (s.lines.get j).rows := foldl_writes_geometry inputWrite_lineWrite _ s j

theorem busStage_geometry (x : Regs Sample 16) (s : State) (j : Fin 40) :
    ((busStage x s).lines.get j).base = (s.lines.get j).base ∧
      ((busStage x s).lines.get j).rows = (s.lines.get j).rows := by
  unfold busStage
  dsimp only
  split <;> exact foldl_writes_geometry (busWrite_lineWrite x) _ s j

/-- The enabled bus lines, counted by bus. -/
theorem enabledBuses_eq (s : State) : enabledBuses s.lines = enabledOf busLine (List.finRange 16) s := by
  have hsplit : List.finRange 40 = (List.finRange 24).map inputLine ++ (List.finRange 16).map busLine := by decide
  have hinput (i : Fin 24) : ¬24 ≤ (inputLine i).val := by rw [inputLine_val]; omega
  have hbus (b : Fin 16) : 24 ≤ (busLine b).val := by rw [busLine_val]; omega
  unfold enabledBuses countTrue enabledOf
  rw [hsplit, ← List.countP_eq_length_filter, List.countP_map, List.countP_append, List.countP_map, List.countP_map]
  have hnone : (List.finRange 24).countP ((id ∘ fun i : Fin 40 => decide (24 ≤ i.val) && decide ((s.lines.get i).rows ≠ 0)) ∘
      inputLine) = 0 := by
    rw [List.countP_eq_zero]
    simp [hinput]
  rw [hnone, Nat.zero_add]
  refine List.countP_congr fun b _ => ?_
  simp [hbus]

theorem enabledBuses_le (s : State) : enabledBuses s.lines ≤ 16 := by
  rw [enabledBuses_eq]
  exact List.countP_le_length

/-- Only the row counts say which bus lines are enabled. -/
theorem enabledBuses_congr {a b : Regs Line 40} (h : ∀ i, (a.get i).rows = (b.get i).rows) :
    enabledBuses a = enabledBuses b := by
  unfold enabledBuses
  simp only [h]

/-- The bus reserve is what the enabled bus lines can cost at most (R59). -/
theorem reserve_eq (t : Timing) (n : Nat) : t.reserve n = writesBound t t.turnaround n := rfl

end Sys2Proof.Machine
end

section
/-! The memory budget of a window (R49, R59, R63), and the refreshes that wait (R50, R66). -/

namespace Sys2Proof.Machine

variable {s t : State}

/-! ### The geometry that a command leaves -/

theorem clearBusLines_get (lines : Regs Line 40) (i : Fin 40) :
    (clearBusLines lines).get i = if i.val < 24 then lines.get i else (lines.get i).cleared := Regs.get_tab _ i

theorem swap_lines_get (s : State) (i : Fin 40) : (swap s).lines.get i = s.lines.get i ∨
    (swap s).lines.get i = (s.lines.get i).cleared := by
  obtain ⟨_, e⟩ := swap_frame s
  rw [e]
  dsimp only
  split
  · rw [clearBusLines_get]
    split
    · exact .inl rfl
    · exact .inr rfl
  · exact .inl rfl

theorem settleSwap_lines_get (s : State) (i : Fin 40) : (settleSwap s).lines.get i = s.lines.get i ∨
    (settleSwap s).lines.get i = (s.lines.get i).cleared := by
  rcases settleSwap_cases s with ⟨_, _, e⟩ | ⟨_, e⟩ <;> rw [e]
  · exact swap_lines_get s i
  · exact .inl rfl

/-- A command leaves each line as it is, or clears it. -/
theorem Acts.lines_get (hacts : Acts s t) (i : Fin 40) :
    t.lines.get i = s.lines.get i ∨ t.lines.get i = (s.lines.get i).cleared := by
  cases hacts with
  | loaded args =>
    obtain ⟨_, _, _, _, e⟩ := loadWords_frame args ({ s with tld := { s.tld with idle := some 0 } }, 0)
    rw [e]
    exact .inl rfl
  | due => exact settleSwap_lines_get _ i
  | _ => exact .inl rfl

theorem Acts.rows (hacts : Acts s t) (i : Fin 40) : (t.lines.get i).rows = (s.lines.get i).rows := by
  rcases hacts.lines_get i with e | e <;> rw [e]
  rfl

/-! ### The tap pass -/

/-- A tap spends of the allowance what it costs. -/
theorem tap_spent (s : State) (p : Pass) (i : Fin 1024) :
    (p.tap s i).spent + (p.tap s i).remaining = p.spent + p.remaining := by
  have haddTo (q : Pass) (d : Nat) (x : Int) : (q.addTo d x).spent = q.spent ∧ (q.addTo d x).remaining = q.remaining := by
    unfold Pass.addTo
    split <;> exact ⟨rfl, rfl⟩
  unfold Pass.tap
  dsimp only
  split
  · next hserve =>
    rw [(haddTo _ _ _).1, (haddTo _ _ _).2]
    simp only [Bool.and_eq_true, decide_eq_true_eq] at hserve
    dsimp only [Pass.serve]
    omega
  · rw [(haddTo _ _ _).1, (haddTo _ _ _).2]
    rfl

theorem foldl_taps_spent (s : State) (l : List (Fin 1024)) (p : Pass) :
    (l.foldl (Pass.tap s) p).spent + (l.foldl (Pass.tap s) p).remaining = p.spent + p.remaining := by
  induction l generalizing p with
  | nil => rfl
  | cons i l ih => exact (ih _).trans (tap_spent s p i)

/-- The pass never spends more than the allowance (R61). -/
theorem runTaps_spent_le (s : State) : (runTaps s).spent ≤ tapAllowance s := by
  have h := foldl_taps_spent s (processedTaps s) (Pass.first s)
  exact (Nat.le_add_right _ _).trans (h.trans (Nat.zero_add _)).le

/-! ### The window start up to the end of the tap pass -/

theorem acceptable_iff (t : Timing) : t.acceptable = true ↔
    256 ≤ t.budget ∧ t.budget ≤ 1800 ∧ 1 ≤ t.factor ∧ t.factor ≤ 64 ∧ t.mandatory ≤ t.budget := by
  simp only [Timing.acceptable, Bool.and_eq_true, decide_eq_true_eq, and_assoc]

/-- The mandatory bound holds two refreshes, a turnaround and 24 writes, and the reserve of 16 bus lines (R49). -/
theorem stages_within_mandatory (t : Timing) {n : Nat} (hn : n ≤ 16) :
    2 * t.refreshCost + writesBound t t.turnaround 24 + t.reserve n ≤ t.mandatory := by
  have hwrites : writesBound t t.turnaround 24 = t.scaled (t.turnaround + 24 * t.accessBound) := rfl
  have hreserve : t.reserve n ≤ t.scaled (t.turnaround + 16 * t.accessBound) :=
    (reserve_eq t n).le.trans (writesBound_mono t le_rfl hn)
  have hall : t.mandatory = t.scaled 10 + t.scaled 10 +
      t.scaled (t.turnaround + 24 * t.accessBound) + t.scaled (t.turnaround + 16 * t.accessBound) := by
    simp only [← scaled_add]
    unfold Timing.mandatory Timing.accessBound
    congr 1
    omega
  unfold Timing.refreshCost
  omega

theorem inputStage_spend (w : State) : (inputStage w).dmc.timing = w.dmc.timing ∧ (inputStage w).dmc.spend ≤
    w.dmc.spend + writesBound w.dmc.timing w.dmc.timing.turnaround 24 := by
  obtain ⟨htiming, hspend⟩ := foldl_writes_spend inputWrite_lineWrite (List.finRange 24) w
  have hcount : enabledOf inputLine (List.finRange 24) w ≤ 24 := List.countP_le_length
  unfold inputStage
  exact ⟨htiming, hspend.trans (Nat.add_le_add_left (writesBound_mono _ (turnTerm_le _ _ _) hcount) _)⟩

theorem refreshStage_spend_le (w : State) :
    (refreshStage w).dmc.spend ≤ w.dmc.spend + 2 * w.dmc.timing.refreshCost :=
  Nat.add_le_add_left (Nat.mul_le_mul_right _ (min_le_right _ _)) _

theorem earlyStages_timing (w : State) : (earlyStages w).dmc.timing = w.dmc.timing := by
  rw [earlyStages, (inputStage_spend _).1]
  rfl

/-- Stages 1 and 2 cost two refreshes and 24 writes at most. -/
theorem earlyStages_spend_le (w : State) (hspend : w.dmc.spend = 0) : (earlyStages w).dmc.spend ≤
    2 * w.dmc.timing.refreshCost + writesBound w.dmc.timing w.dmc.timing.turnaround 24 := by
  have hwrites := (inputStage_spend (refreshStage (conditionInputs w))).2
  have hrefresh := refreshStage_spend_le (conditionInputs w)
  rw [conditionInputs_dmc, hspend, Nat.zero_add] at hrefresh
  rw [earlyStages]
  exact hwrites.trans (Nat.add_le_add_right hrefresh _)

/-- The stages up to the end of the tap pass leave the reserve of the bus lines free. -/
theorem windowStaged_spend (o : Opening) (d : Nat) {w : State} (hspend : w.dmc.spend = 0)
    (hgood : w.dmc.timing.acceptable = true) : (windowStaged o d w).dmc.timing = w.dmc.timing ∧
    (windowStaged o d w).dmc.spend + w.dmc.timing.reserve (enabledBuses (windowStaged o d w).lines) ≤
      w.dmc.timing.budget := by
  have hearly := earlyStages_spend_le w hspend
  have htiming := earlyStages_timing w
  rw [windowStaged_dmc, windowStaged_lines]
  generalize earlyStages w = e at hearly htiming ⊢
  have hmandatory := stages_within_mandatory w.dmc.timing (enabledBuses_le e)
  obtain ⟨_, _, _, _, hbudget⟩ := (acceptable_iff _).1 hgood
  have htaps := runTaps_spent_le e
  rw [tapAllowance, htiming] at htaps
  generalize runTaps e = p at htaps ⊢
  refine ⟨htiming, ?_⟩
  dsimp only [tapStage]
  omega

theorem startBlocks_dmc (s : State) (time : Nat) : ∃ openRow direction, (startBlocks time s).dmc = { s.dmc.takeTiming
    (timingOf s.tables.timing) time with openRow := openRow, direction := direction, spend := 0 } := by
  obtain ⟨_, _, _, _, _, h⟩ := startGeometry_frame s time
  rw [startBlocks_eq, h]
  unfold memoryWindowStart Dmc.takeTiming
  dsimp only
  split <;> exact ⟨_, _, rfl⟩

theorem windowStart_dmc (s : State) (time : Nat) (j : Taken) : ∃ openRow direction, (windowStart time j s).dmc =
    { s.dmc.takeTiming (timingOf s.tables.timing) time with
      openRow := openRow, direction := direction, spend := 0 } := by
  obtain ⟨_, _, _, _, h⟩ := windowStart_eq s time j
  rw [h]
  exact startBlocks_dmc _ time

@[simp] theorem takeTiming_timing (d : Dmc) (t : Timing) (time : Nat) : (d.takeTiming t time).timing = t := by
  unfold Dmc.takeTiming
  split <;> rfl

/-! ### The budget -/

theorem budgetInv_keptInWindow : KeptInWindow BudgetInv where
  cmu _ _ h := h
  effect c args s _ h := by
    have hacts := effect_acts s args c
    generalize c.effect args s = t at hacts ⊢
    obtain ⟨hstored, hforce, hspend⟩ := h
    have hbuses := enabledBuses_congr hacts.rows
    have htiming : (timingOf t.tables.timing).acceptable = true := by
      rcases hacts.timing with e | hgood
      · rwa [e]
      · exact hgood
    obtain ⟨_, _, _, _, _, _, _, _, _, _, _, _, _, _, _, _, rfl⟩ := hacts.frame
    exact ⟨htiming, hforce, hbuses ▸ hspend⟩
  mark s h := by
    obtain ⟨_, _, e⟩ := takeMark_frame (s := s)
    rwa [e]
  shed _ _ _ _ h := h

/-- The writes of a window end cost no more than the reserve. -/
theorem endWindow_spend (hw : s.inWindow = true) (h : BudgetInv s) : BudgetInv (endWindow s) := by
  obtain ⟨hstored, hforce, hspend⟩ := h
  rw [hw, if_pos rfl] at hspend
  have hbus : (busStage (busSamples s) (tapWindowEnd s)).dmc.spend ≤
      s.dmc.spend + s.dmc.timing.reserve (enabledBuses s.lines) := by
    have hwrites (l : List (Fin 16)) (hl : l.Sublist (List.finRange 16)) :
        (l.foldl (busWrite (busSamples s)) (tapWindowEnd s)).dmc.spend ≤
          s.dmc.spend + s.dmc.timing.reserve (enabledBuses s.lines) := by
      refine (foldl_writes_spend (busWrite_lineWrite (busSamples s)) l (tapWindowEnd s)).2.trans ?_
      refine Nat.add_le_add_left (writesBound_mono _ (turnTerm_le _ _ _) ?_) _
      rw [enabledBuses_eq]
      exact hl.countP_le
    unfold busStage
    dsimp only
    split <;> exact hwrites _ List.filter_sublist
  obtain ⟨_, _, _, _, _, _, hframe⟩ := busStage_frame (tapWindowEnd s) (busSamples s)
  have htiming : (busStage (busSamples s) (tapWindowEnd s)).dmc.timing = s.dmc.timing := by rw [hframe]; rfl
  have hdmc : (endWindow s).dmc = (busStage (busSamples s) (tapWindowEnd s)).dmc := by
    obtain ⟨_, hbefore⟩ := beforeScene_eq s
    obtain ⟨_, _, _, _, hscene⟩ := sceneWindowEnd_frame (beforeScene s)
    obtain ⟨_, _, _, _, hsettle⟩ := settleSwap_frame { endBlocks s with inWindow := false }
    rcases endWindow_cases s with ⟨_, e⟩ | ⟨hno, _⟩
    · rw [e, hsettle, endBlocks_eq, hscene, hbefore]
    · simp [hw] at hno
  obtain ⟨_, _, _, _, _, _, _, _, _, _, _, _, _, _, e⟩ := endWindow_frame s
  refine ⟨by rw [e]; exact hstored, by rw [hdmc, htiming]; exact hforce, ?_⟩
  rw [endWindow_inWindow, if_neg Bool.false_ne_true, hdmc, htiming, Nat.add_zero]
  exact hbus.trans hspend

theorem budgetInv_reset : BudgetInv State.reset := by
  refine ⟨?_, ?_, Nat.zero_le _⟩ <;> decide

theorem budgetInv_kept : KeptByParts BudgetInv where
  toKeptInWindow := budgetInv_keptInWindow
  pending _ _ h := h
  powerOn _ _ _ _ := budgetInv_reset
  closed _ h := h
  ended _ hw _ h := endWindow_spend hw h
  opened s time j o _ _ _ h := by
    refine budgetInv_keptInWindow.openWindow (fun _ ht => ht) time j o ?_
    obtain ⟨_, _, hdmc⟩ := windowStart_dmc s time j
    have htiming : (windowStart time j s).dmc.timing = timingOf s.tables.timing := by
      rw [hdmc]
      exact takeTiming_timing _ _ _
    have hgood := h.1
    rw [← htiming] at hgood
    obtain ⟨hsame, hspend⟩ := windowStaged_spend o s.draws (by rw [hdmc]) hgood
    refine ⟨?_, ?_, ?_⟩
    · rw [windowStaged_tables, windowStart_tables]
      exact h.1
    · rw [hsame]
      exact hgood
    · rw [windowStaged_inWindow, if_pos rfl, hsame]
      exact hspend
  quiet _ _ _ _ _ h := h
  refresh _ _ _ _ h := h
  forgiven s i h := by
    obtain ⟨_, e⟩ := forgiveDetector_frame i s
    rwa [e]
  recovered _ _ h := h
  tripped s i h := by
    obtain ⟨_, _, e⟩ := tripDetector_frame i s
    rwa [e]
  levelFinish s h := by
    obtain ⟨_, _, e⟩ := levelFinishNow_frame s
    rwa [e]
  decayFinish s h := by
    obtain ⟨_, _, e⟩ := decayFinishNow_frame s
    rwa [e]

/-! ### Refresh -/

/-- The controller's part of the refresh invariant. -/
def RefreshOk (d : Dmc) : Prop := d.pendingRefresh ≤ 7 ∧ d.refreshDue.isSome = d.timing.refreshOn

theorem takeTiming_refresh {d : Dmc} (t : Timing) (time : Nat) (h : RefreshOk d) : RefreshOk (d.takeTiming t time) := by
  obtain ⟨hpending, hdue⟩ := h
  unfold Dmc.takeTiming
  split
  · next hold hnew => exact ⟨hpending, by rw [hdue, hold, hnew]⟩
  · next hnew => exact ⟨Nat.zero_le _, hnew.symm⟩
  · next hnew => exact ⟨Nat.zero_le _, hnew.symm⟩
  · next hold hnew => exact ⟨hpending, by rw [hdue, hold, hnew]⟩

theorem earlyStages_refresh {w : State} (h : RefreshOk w.dmc) : RefreshOk (earlyStages w).dmc := by
  obtain ⟨_, _, _, _, _, e⟩ := inputStage_frame (refreshStage (conditionInputs w))
  rw [earlyStages, e]
  exact ⟨(Nat.sub_le _ _).trans h.1, h.2⟩

theorem windowStaged_refresh (o : Opening) (d : Nat) {w : State} (h : RefreshOk w.dmc) :
    RefreshOk (windowStaged o d w).dmc := by
  have hearly := earlyStages_refresh h
  rw [windowStaged_dmc]
  generalize earlyStages w = e at hearly ⊢
  exact hearly

theorem refreshInv_keptInWindow : KeptInWindow RefreshInv where
  cmu _ _ h := h
  effect c args s _ h := by
    obtain ⟨_, _, _, _, _, _, _, _, _, _, _, _, _, _, _, _, e⟩ := (effect_acts s args c).frame
    rwa [e]
  mark s h := by
    obtain ⟨_, _, e⟩ := takeMark_frame (s := s)
    rwa [e]
  shed _ _ _ _ h := h

theorem refreshInv_kept : KeptByParts RefreshInv where
  toKeptInWindow := refreshInv_keptInWindow
  pending _ _ h := h
  powerOn _ _ _ _ := ⟨Nat.zero_le _, rfl⟩
  closed _ h := h
  ended s _ _ h := by
    obtain ⟨_, _, _, _, _, _, _, _, _, _, _, _, _, _, e⟩ := endWindow_frame s
    rwa [e]
  opened s time j o _ _ _ h := by
    refine refreshInv_keptInWindow.openWindow (fun _ ht => ht) time j o (windowStaged_refresh o _ ?_)
    obtain ⟨_, _, e⟩ := windowStart_dmc s time j
    rw [e]
    exact takeTiming_refresh _ time h
  quiet _ _ _ _ _ h := h
  refresh s due _ hdue h := by
    obtain ⟨hpending, hon⟩ := h
    rw [hdue] at hon
    refine ⟨?_, hon⟩
    dsimp only
    split <;> omega
  forgiven s i h := by
    obtain ⟨_, e⟩ := forgiveDetector_frame i s
    rwa [e]
  recovered _ _ h := h
  tripped s i h := by
    obtain ⟨_, _, e⟩ := tripDetector_frame i s
    rwa [e]
  levelFinish s h := by
    obtain ⟨_, _, e⟩ := levelFinishNow_frame s
    rwa [e]
  decayFinish s h := by
    obtain ⟨_, _, e⟩ := decayFinishNow_frame s
    rwa [e]

/-- Settles O57: the mandatory bound covers the fixed costs, the allowance covers the taps, and the reserve the bus
writes; a timing that comes into force starts or stops the refresh timer. -/
theorem stepsKeepTheFrameBudget : Obligations.StepsKeepTheFrameBudget :=
  ⟨fun _ _ h hs => budgetInv_kept.step h hs, fun _ _ h hs => refreshInv_kept.step h hs⟩

end Sys2Proof.Machine
end

section
/-! The delay lines and the delay memory (R31, R33, R34, R36, R39): stored and in force, no two regions meet, every line
moves inside its region, and so every word written exists. -/

namespace Sys2Proof.Machine

/-- One line in its ranges: its region exists, and its write position and fill count lie in it. -/
def LineOk (l : Line) : Prop := l.rows ≤ 128 ∧ Line.fits l.base l.rows = true ∧ l.fill ≤ l.length ∧
  (l.rows = 0 → l.wp = 0) ∧ (l.rows ≠ 0 → l.wp < l.length)

/-- No two enabled lines share a row. -/
def LinesApart (lines : Regs Line 40) : Prop := ∀ i j, i ≠ j → (lines.get i).rows ≠ 0 → (lines.get j).rows ≠ 0 →
  (lines.get i).base + (lines.get i).rows ≤ (lines.get j).base ∨
  (lines.get j).base + (lines.get j).rows ≤ (lines.get i).base

/-- The lines in force. -/
def LinesOk (lines : Regs Line 40) : Prop := (∀ i, LineOk (lines.get i)) ∧ LinesApart lines

/-- A stored LINES table that R33 accepts. -/
def LineTableOk (lines : Regs Word 40) : Prop :=
  (∀ i, lineOk (lines.get i)) ∧ ∀ i j, i ≠ j → regionsMeet (lines.get i) (lines.get j) = false

theorem linesInv_iff (s : State) : LinesInv s ↔ LineTableOk s.tables.lines ∧ LinesOk s.lines := by
  constructor
  · rintro ⟨hgood, hmeet, hfits, hapart, hranges⟩
    exact ⟨⟨hgood, hmeet⟩, fun i => ⟨(hfits i).1, (hfits i).2, hranges i⟩, hapart⟩
  · rintro ⟨⟨hgood, hmeet⟩, hlines, hapart⟩
    exact ⟨hgood, hmeet, fun i => ⟨(hlines i).1, (hlines i).2.1⟩, hapart, fun i => (hlines i).2.2⟩

variable {s t u : State}

/-! ### The stored table -/

theorem regionsMeet_comm (a b : Word) : regionsMeet a b = regionsMeet b a := by
  rw [Bool.eq_iff_iff]
  simp only [regionsMeet, Bool.and_eq_true, decide_eq_true_eq, ne_eq]
  tauto

/-- What the test of R33 finds of an entry of the run that is written. -/
theorem badLine_eq_false {lines : Regs Word 40} {start n : Nat} {i : Fin 40} (h : badLine lines start n i = false) :
    lineOk (lines.get i) ∧ ∀ j, j ≠ i → (j.val < start ∨ start + n ≤ j.val ∨ j.val < i.val) →
      regionsMeet (lines.get i) (lines.get j) = false := by
  simp only [badLine, Bool.or_eq_false_iff, decide_eq_false_iff_not, not_lt, List.any_eq_false, List.mem_finRange,
    true_imp_iff, Bool.and_eq_true, Bool.or_eq_true, decide_eq_true_eq] at h
  obtain ⟨⟨hrows, hend⟩, hmeet⟩ := h
  refine ⟨⟨hrows, hend⟩, fun j hj hwhere => ?_⟩
  rw [← Bool.not_eq_true]
  intro hm
  exact hmeet j ⟨⟨hj, hm⟩, by tauto⟩

/-- A table whose written run passes R33, and whose other entries were in order, is in order. -/
theorem lineTable_stored {before after : Regs Word 40} {start n : Nat} (h : LineTableOk before)
    (hkept : ∀ i : Fin 40, i.val < start ∨ start + n ≤ i.val → after.get i = before.get i)
    (hgood : ∀ i : Fin 40, start ≤ i.val → i.val < start + n → badLine after start n i = false) : LineTableOk after := by
  have hrun (i j : Fin 40) (hij : i ≠ j) (hlow : start ≤ i.val) (hhigh : i.val < start + n)
      (hwhere : j.val < start ∨ start + n ≤ j.val ∨ j.val < i.val) : regionsMeet (after.get i) (after.get j) = false :=
    (badLine_eq_false (hgood i hlow hhigh)).2 j hij.symm hwhere
  constructor
  · intro i
    by_cases hi : start ≤ i.val ∧ i.val < start + n
    · exact (badLine_eq_false (hgood i hi.1 hi.2)).1
    · rw [hkept i (by omega)]
      exact h.1 i
  · intro i j hij
    have hne : i.val ≠ j.val := fun e => hij (Fin.ext e)
    by_cases hi : start ≤ i.val ∧ i.val < start + n
    · by_cases hj : j.val < start ∨ start + n ≤ j.val ∨ j.val < i.val
      · exact hrun i j hij hi.1 hi.2 hj
      · rw [regionsMeet_comm]
        exact hrun j i hij.symm (by omega) (by omega) (by omega)
    · by_cases hj : start ≤ j.val ∧ j.val < start + n
      · rw [regionsMeet_comm]
        exact hrun j i hij.symm hj.1 hj.2 (by omega)
      · rw [hkept i (by omega), hkept j (by omega)]
        exact h.2 i j hij

theorem Acts.lineTable (hacts : Acts s t) (h : LineTableOk s.tables.lines) : LineTableOk t.tables.lines := by
  rcases hacts.tables_cases with ⟨_, _, e⟩ | ⟨id, start, size, entries, _, hid, hsize, hfits, e, hgood⟩
  · rw [e]
    exact h
  · have hkept (i : Fin 40) (hi : id = 5 → i.val < start ∨ start + entries.length ≤ i.val) :
        t.tables.lines.get i = s.tables.lines.get i := by
      have happart := Tables.entryWords_storeRun_apart s.tables (shadowName s) .a id start size entries hid hsize hfits
        5 i.val 40 rfl i.isLt (.inr (by omega))
      rw [← e] at happart
      simpa only [Tables.entryWords, Fin.ofNat_val_eq_self, List.cons.injEq, and_true] using happart
    by_cases hfive : id = 5
    · subst hfive
      refine lineTable_stored (start := start) (n := entries.length) h (fun i hi => hkept i fun _ => hi)
        fun i hlow hhigh => ?_
      have hfound := hgood (i.val - start) (by omega)
      rw [Nat.add_sub_cancel' hlow] at hfound
      simpa only [badEntry, Fin.ofNat_val_eq_self] using hfound
    · have hsame : t.tables.lines = s.tables.lines := Regs.ext_get fun i => hkept i fun h => absurd h hfive
      rwa [hsame]

/-! ### The lines in force -/

theorem LineOk.cleared {l : Line} (h : LineOk l) : LineOk l.cleared := by
  obtain ⟨hrows, hfits, _, _, _⟩ := h
  exact ⟨hrows, hfits, Nat.zero_le _, fun _ => rfl, fun hon => length_pos (l := l) hon⟩

/-- Lines of which some are cleared stay in order. -/
theorem LinesOk.cleared {a b : Regs Line 40} (h : LinesOk a) (hb : ∀ i, b.get i = a.get i ∨ b.get i = (a.get i).cleared) :
    LinesOk b := by
  have hsame (i : Fin 40) : (b.get i).base = (a.get i).base ∧ (b.get i).rows = (a.get i).rows := by
    rcases hb i with e | e <;> rw [e] <;> exact ⟨rfl, rfl⟩
  constructor
  · intro i
    rcases hb i with e | e <;> rw [e]
    · exact h.1 i
    · exact (h.1 i).cleared
  · intro i j hij hi hj
    rw [(hsame i).1, (hsame i).2, (hsame j).1, (hsame j).2]
    exact h.2 i j hij ((hsame i).2 ▸ hi) ((hsame j).2 ▸ hj)

theorem lineWrite_lineOk {k : Fin 40} (hw : LineWrite k s u) (h : ∀ i, LineOk (s.lines.get i)) (i : Fin 40) :
    LineOk (u.lines.get i) := by
  rcases hw with ⟨_, rfl⟩ | ⟨hon, q, x, wp, hwp, rfl⟩
  · exact h i
  · dsimp only
    rw [Regs.get_put]
    split
    · obtain ⟨hrows, hfits, _, _, hin⟩ := h k
      exact ⟨hrows, hfits, min_le_right _ _, fun hoff => absurd hoff hon, fun _ => (hwp (hin hon)).2⟩
    · exact h i

/-- The word that a line writes exists. -/
theorem lineWrite_memory {k : Fin 40} (hw : LineWrite k s u) (h : ∀ i, LineOk (s.lines.get i)) (hm : MemoryInv s) :
    MemoryInv u := by
  rcases hw with ⟨_, rfl⟩ | ⟨hon, q, x, wp, hwp, rfl⟩
  · exact hm
  · refine ⟨Memory.wf_write _ _ _ _ hm.1, fun c hc => ?_⟩
    rcases Memory.mem_write _ _ _ _ c hc with rfl | hc
    · obtain ⟨_, hfits, _, _, hin⟩ := h k
      have hq := (hwp (hin hon)).1
      simp only [Line.fits, Bool.or_eq_true, beq_iff_eq, hon, false_or, decide_eq_true_eq] at hfits
      unfold Line.length at hq
      dsimp only [Line.address]
      omega
    · exact hm.2 c hc

section
variable {ι : Type} {write : State → ι → State} {key : ι → Fin 40}

theorem foldl_writes_lineOk (hwrite : ∀ t i, LineWrite (key i) t (write t i)) (l : List ι) {s : State}
    (h : ∀ i, LineOk (s.lines.get i)) : (∀ i, LineOk ((l.foldl write s).lines.get i)) ∧
      (MemoryInv s → MemoryInv (l.foldl write s)) := by
  induction l generalizing s with
  | nil => exact ⟨h, id⟩
  | cons i l ih =>
    obtain ⟨hlines, hmemory⟩ := ih (lineWrite_lineOk (hwrite s i) h)
    exact ⟨hlines, fun hm => hmemory (lineWrite_memory (hwrite s i) h hm)⟩

end

theorem LinesApart.congr {a b : Regs Line 40} (h : LinesApart a)
    (hb : ∀ i, (b.get i).base = (a.get i).base ∧ (b.get i).rows = (a.get i).rows) : LinesApart b := by
  intro i j hij hi hj
  rw [(hb i).1, (hb i).2, (hb j).1, (hb j).2]
  exact h i j hij ((hb i).2 ▸ hi) ((hb j).2 ▸ hj)

theorem inputStage_lines (h : LinesOk s.lines) :
    LinesOk (inputStage s).lines ∧ (MemoryInv s → MemoryInv (inputStage s)) := by
  obtain ⟨hlines, hmemory⟩ := foldl_writes_lineOk inputWrite_lineWrite (List.finRange 24) h.1
  exact ⟨⟨hlines, h.2.congr (inputStage_geometry s)⟩, hmemory⟩

theorem busStage_lines (x : Regs Sample 16) (h : LinesOk s.lines) :
    LinesOk (busStage x s).lines ∧ (MemoryInv s → MemoryInv (busStage x s)) := by
  have hgeometry := busStage_geometry x s
  unfold busStage at hgeometry ⊢
  obtain ⟨hlines, hmemory⟩ := foldl_writes_lineOk (busWrite_lineWrite x)
    ((List.finRange 16).filter fun b => !clearedFirst s b) h.1
  dsimp only at hgeometry ⊢
  split at hgeometry
  · next hclear =>
    rw [if_pos hclear]
    exact ⟨⟨hlines, h.2.congr hgeometry⟩, hmemory⟩
  · next hkeep =>
    rw [if_neg hkeep]
    exact ⟨⟨hlines, h.2.congr hgeometry⟩, hmemory⟩

/-! ### Windows -/

theorem sceneWindowEnd_lines_get (s : State) (i : Fin 40) : (sceneWindowEnd s).lines.get i = s.lines.get i ∨
    (sceneWindowEnd s).lines.get i = (s.lines.get i).cleared := by
  rcases sceneWindowEnd_cases s with e | ⟨_, _, e⟩ | ⟨_, _, e⟩ | ⟨_, e⟩ | ⟨_, _, _, e⟩ <;> rw [e]
  case inr.inl =>
    rcases reachZero_cases s with ⟨_, e⟩ | ⟨_, e⟩ | ⟨_, e⟩ <;> rw [e]
    · exact swap_lines_get s i
    · exact swap_lines_get s i
    · exact .inl rfl
  all_goals exact .inl rfl

theorem endWindow_lines (h : LinesOk s.lines) :
    LinesOk (endWindow s).lines ∧ (MemoryInv s → MemoryInv (endWindow s)) := by
  rcases endWindow_cases s with ⟨_, e⟩ | ⟨_, e⟩
  · obtain ⟨_, hbefore⟩ := beforeScene_eq s
    obtain ⟨hbus, hmemory⟩ := busStage_lines (s := tapWindowEnd s) (busSamples s) h
    have hlines : LinesOk (beforeScene s).lines := by
      rw [hbefore]
      exact hbus
    have hscene : LinesOk (endBlocks s).lines := hlines.cleared (sceneWindowEnd_lines_get _)
    have hend : (endWindow s).memory = (busStage (busSamples s) (tapWindowEnd s)).memory := by
      obtain ⟨_, _, _, _, hscene⟩ := sceneWindowEnd_frame (beforeScene s)
      obtain ⟨_, _, _, _, hsettle⟩ := settleSwap_frame { endBlocks s with inWindow := false }
      rw [e, hsettle, endBlocks_eq, hscene, hbefore]
    refine ⟨?_, fun hm => ?_⟩
    · rw [e]
      exact LinesOk.cleared (a := (endBlocks s).lines) hscene (settleSwap_lines_get _)
    · unfold MemoryInv
      rw [hend]
      exact hmemory hm
  · rw [e]
    exact ⟨h, id⟩

theorem startLine_ok {t : Tables} {lines : Regs Line 40} (ht : LineTableOk t.lines) (h : ∀ i, LineOk (lines.get i))
    (i : Fin 40) : LineOk (startLine t lines i) := by
  unfold startLine
  split
  · obtain ⟨hrows, hend⟩ := ht.1 i
    refine ⟨hrows, ?_, Nat.zero_le _, fun _ => rfl, fun hon => length_pos hon⟩
    simp [Line.fits, hend]
  · exact h i

/-- The stored geometry comes into force at the window start. -/
theorem windowStart_lines (time : Nat) (j : Taken) (h : LinesInv s) : LinesOk (windowStart time j s).lines := by
  rw [linesInv_iff] at h
  obtain ⟨htable, hlines, _⟩ := h
  have hgeometry (i : Fin 40) : ((windowStart time j s).lines.get i).base = baseOf (s.tables.lines.get i) ∧
      ((windowStart time j s).lines.get i).rows = rowsOf (s.tables.lines.get i) := by
    rw [windowStart_lines_get]
    split
    · exact ⟨startLine_base _ _ i, startLine_rows _ _ i⟩
    · exact ⟨startLine_base _ _ i, startLine_rows _ _ i⟩
  constructor
  · intro i
    rw [windowStart_lines_get]
    split
    · exact (startLine_ok htable hlines i).cleared
    · exact startLine_ok htable hlines i
  · intro i k hik hi hk
    rw [(hgeometry i).1, (hgeometry i).2, (hgeometry k).1, (hgeometry k).2]
    rw [(hgeometry i).2] at hi
    rw [(hgeometry k).2] at hk
    have hmeet := htable.2 i k hik
    simp only [regionsMeet, hi, hk, ne_eq, not_false_eq_true, decide_true, Bool.true_and,
      Bool.and_eq_false_iff, decide_eq_false_iff_not, not_lt] at hmeet
    omega

theorem windowStaged_linesInv (time : Nat) (j : Taken) (o : Opening) (d : Nat) (h : LinesInv s) :
    LinesInv (windowStaged o d (windowStart time j s)) ∧
      (MemoryInv s → MemoryInv (windowStaged o d (windowStart time j s))) := by
  have hstart := windowStart_lines time j h
  have hmemory : MemoryInv s → MemoryInv (windowStart time j s) := by
    unfold MemoryInv
    rw [windowStart_memory]
    exact id
  obtain ⟨hlines, hwrites⟩ := inputStage_lines (s := refreshStage (conditionInputs (windowStart time j s))) hstart
  rw [linesInv_iff, windowStaged_tables, windowStart_tables, windowStaged_lines]
  unfold MemoryInv at hwrites hmemory ⊢
  rw [windowStaged_memory]
  exact ⟨⟨((linesInv_iff s).1 h).1, hlines⟩, fun hm => hwrites (hmemory hm)⟩

/-! ### Every step -/

theorem linesInv_keptInWindow : KeptInWindow LinesInv where
  cmu _ _ h := h
  effect c args s _ h := by
    rw [linesInv_iff] at h ⊢
    exact ⟨(effect_acts s args c).lineTable h.1, h.2.cleared (effect_acts s args c).lines_get⟩
  mark s h := by
    obtain ⟨_, _, e⟩ := takeMark_frame (s := s)
    rwa [e]
  shed _ _ _ _ h := h

theorem linesInv_reset : LinesInv State.reset := by
  have hline : LineOk ⟨0, 0, 0, 0⟩ := ⟨by decide, by decide, by decide, fun _ => rfl, fun h => absurd rfl h⟩
  have hword : lineOk 0#24 := by unfold lineOk; decide
  have hmeet : regionsMeet 0#24 0#24 = false := by decide
  rw [linesInv_iff]
  simp [LineTableOk, LinesOk, LinesApart, State.reset, Tables.initial, hline, hword, hmeet]

theorem endWindow_linesInv (h : LinesInv s) : LinesInv (endWindow s) := by
  rw [linesInv_iff] at h ⊢
  refine ⟨?_, (endWindow_lines h.2).1⟩
  obtain ⟨_, _, _, _, _, _, _, _, _, _, _, _, _, _, e⟩ := endWindow_frame s
  rw [e]
  exact h.1

theorem linesInv_kept : KeptByParts LinesInv where
  toKeptInWindow := linesInv_keptInWindow
  pending _ _ h := h
  powerOn _ _ _ _ := linesInv_reset
  closed _ h := h
  ended _ _ _ h := endWindow_linesInv h
  opened s time j o _ _ _ h :=
    linesInv_keptInWindow.openWindow (fun _ ht => ht) time j o (windowStaged_linesInv time j o _ h).1
  quiet _ _ _ _ _ h := h
  refresh _ _ _ _ h := h
  forgiven s i h := by
    obtain ⟨_, e⟩ := forgiveDetector_frame i s
    rwa [e]
  recovered _ _ h := h
  tripped s i h := by
    obtain ⟨_, _, e⟩ := tripDetector_frame i s
    rwa [e]
  levelFinish s h := by
    obtain ⟨_, _, e⟩ := levelFinishNow_frame s
    rwa [e]
  decayFinish s h := by
    obtain ⟨_, _, e⟩ := decayFinishNow_frame s
    rwa [e]

/-- The lines in order, and the delay memory with them. -/
def LinesMemoryInv (s : State) : Prop := LinesInv s ∧ MemoryInv s

theorem linesMemoryInv_keptInWindow : KeptInWindow LinesMemoryInv where
  cmu _ _ h := h
  effect c args s hacc h := by
    refine ⟨linesInv_keptInWindow.effect c args s hacc h.1, ?_⟩
    obtain ⟨_, _, _, _, _, _, _, _, _, _, _, _, _, _, _, _, e⟩ := (effect_acts s args c).frame
    rw [e]
    exact h.2
  mark s h := by
    obtain ⟨_, _, e⟩ := takeMark_frame (s := s)
    rwa [e]
  shed _ _ _ _ h := h

theorem linesMemoryInv_kept : KeptByParts LinesMemoryInv where
  toKeptInWindow := linesMemoryInv_keptInWindow
  pending _ _ h := h
  powerOn _ _ _ _ := ⟨linesInv_reset, rfl, fun _ hc => by cases hc⟩
  closed _ h := h
  ended s _ _ h := ⟨endWindow_linesInv h.1, (endWindow_lines ((linesInv_iff s).1 h.1).2).2 h.2⟩
  opened s time j o _ _ _ h := by
    obtain ⟨hlines, hmemory⟩ := windowStaged_linesInv time j o s.draws h.1
    exact linesMemoryInv_keptInWindow.openWindow (fun _ ht => ht) time j o ⟨hlines, hmemory h.2⟩
  quiet _ _ _ _ _ h := h
  refresh _ _ _ _ h := h
  forgiven s i h := by
    obtain ⟨_, e⟩ := forgiveDetector_frame i s
    rwa [e]
  recovered _ _ h := h
  tripped s i h := by
    obtain ⟨_, _, e⟩ := tripDetector_frame i s
    rwa [e]
  levelFinish s h := by
    obtain ⟨_, _, e⟩ := levelFinishNow_frame s
    rwa [e]
  decayFinish s h := by
    obtain ⟨_, _, e⟩ := decayFinishNow_frame s
    rwa [e]

/-- Settles O52: an accepted run of LINES leaves a table that R33 accepts, whose geometry comes into force as a whole. -/
theorem stepsKeepTheLines : Obligations.StepsKeepTheLines :=
  ⟨fun _ _ h hs => linesInv_kept.step h hs, fun _ _ h hm hs => (linesMemoryInv_kept.step ⟨h, hm⟩ hs).2⟩

end Sys2Proof.Machine
end

section
/-! The Command Unit (R156 to R160, R165): the unit state, the assembly, the record and the reply buffer agree, whatever
cells and messages come. -/

namespace Sys2Proof.Machine

/-! ### What a command's own action leaves of the Command Unit, and what it answers -/

/-- Two Command Units with the same unit state, assembly, record, reply buffer and address. -/
def Cmu.SameUnit (k l : Cmu) : Prop := k.unit = l.unit ∧ k.assembly = l.assembly ∧ k.words = l.words ∧
  k.replyBuffer = l.replyBuffer ∧ k.nodeAddress = l.nodeAddress

theorem Cmu.SameUnit.of_eq {k l : Cmu} (h : k = l) : k.SameUnit l := h ▸ ⟨rfl, rfl, rfl, rfl, rfl⟩

variable (s : State) (args : List Word)

theorem takeStatus_cmu : ((takeStatus args s).after.cmu).SameUnit s.cmu := by
  unfold takeStatus
  split <;> exact ⟨rfl, rfl, rfl, rfl, rfl⟩

theorem takeRead_after : (takeRead args s).after = s := by
  unfold takeRead
  dsimp only
  (repeat' split) <;> rfl

theorem takeWrite_frame : ∃ tables, (takeWrite args s).after = { s with tables := tables } := by
  unfold takeWrite
  dsimp only
  (repeat' split) <;> exact ⟨_, rfl⟩

theorem takeLoadOpen_frame : ∃ tld, (takeLoadOpen args s).after = { s with tld := tld } := by
  unfold takeLoadOpen
  dsimp only
  (repeat' split) <;> exact ⟨_, rfl⟩

theorem takeLoadData_frame : ∃ a b tld, (takeLoadData args s).after =
    { s with tables := s.tables.withBanks a b, tld := tld } := by
  unfold takeLoadData
  split
  · obtain ⟨a, b, tld, _, e⟩ := loadWords_frame args ({ s with tld := { s.tld with idle := some 0 } }, 0)
    exact ⟨a, b, tld, congrArg Prod.fst e⟩
  · exact ⟨s.tables.bankA, s.tables.bankB, _, rfl⟩

theorem takeLoadClose_frame : ∃ tld, (takeLoadClose args s).after = { s with tld := tld } := by
  unfold takeLoadClose
  dsimp only
  split <;> exact ⟨_, rfl⟩

theorem takeCommit_frame : ∃ scc, (takeCommit args s).after = { s with scc := scc } := by
  rcases takeCommit_cases s args with ⟨_, _, e⟩ | ⟨scc, _, _, e⟩ | ⟨_, _, _, e⟩ <;> rw [e] <;> exact ⟨_, rfl⟩

theorem takeCancel_frame : ∃ scc, (takeCancel args s).after = { s with scc := scc } := by
  unfold takeCancel
  split <;> exact ⟨_, rfl⟩

theorem takeHush_frame : ∃ scc, (takeHush args s).after = { s with scc := scc } := by
  unfold takeHush
  split <;> exact ⟨_, rfl⟩

theorem takeResume_frame : ∃ scc, (takeResume args s).after = { s with scc := scc } := by
  unfold takeResume
  split <;> exact ⟨_, rfl⟩

theorem takeSurveyStart_frame : ∃ svu, (takeSurveyStart args s).after = { s with svu := svu } := by
  unfold takeSurveyStart
  split <;> exact ⟨_, rfl⟩

/-- A command's own action leaves the message traffic alone. -/
theorem run_sameUnit (c : Command) : ((c.run args s).after.cmu).SameUnit s.cmu := by
  have hunit {t u : State} (e : t = u) (h : u.cmu = s.cmu) : t.cmu.SameUnit s.cmu := .of_eq (e ▸ h)
  cases c with
  | status => exact takeStatus_cmu s args
  | read => exact hunit (takeRead_after s args) rfl
  | write =>
    obtain ⟨_, e⟩ := takeWrite_frame s args
    exact hunit e rfl
  | loadOpen =>
    obtain ⟨_, e⟩ := takeLoadOpen_frame s args
    exact hunit e rfl
  | loadData =>
    obtain ⟨_, _, _, e⟩ := takeLoadData_frame s args
    exact hunit e rfl
  | loadClose =>
    obtain ⟨_, e⟩ := takeLoadClose_frame s args
    exact hunit e rfl
  | commit =>
    obtain ⟨_, e⟩ := takeCommit_frame s args
    exact hunit e rfl
  | cancel =>
    obtain ⟨_, e⟩ := takeCancel_frame s args
    exact hunit e rfl
  | hush =>
    obtain ⟨_, e⟩ := takeHush_frame s args
    exact hunit e rfl
  | resume =>
    obtain ⟨_, e⟩ := takeResume_frame s args
    exact hunit e rfl
  | guardClear => exact .of_eq rfl
  | surveyStart =>
    obtain ⟨_, e⟩ := takeSurveyStart_frame s args
    exact hunit e rfl
  | surveyStop => exact .of_eq rfl
  | faultClear => exact ⟨rfl, rfl, rfl, rfl, rfl⟩
  | restart => exact ⟨rfl, rfl, rfl, rfl, rfl⟩

/-- The stored words of an entry are as many as its table's width. -/
theorem entryWords_length_le (t : Tables) (n : BankName) (id i : Nat) : (t.entryWords n id i).length ≤ tableWidth id := by
  match id with
  | 0 | 1 | 2 | 3 | 4 | 5 | 6 | 7 | 8 | 9 | 10 => exact le_rfl
  | _ + 11 => exact Nat.zero_le _

theorem readWords_length_le (t : Tables) (n : BankName) (id start count : Nat) :
    (readWords t n id start count).length ≤ count * tableWidth id := by
  unfold readWords
  induction count with
  | zero => exact Nat.zero_le _
  | succ count ih =>
    rw [List.range_succ, List.flatMap_append, List.length_append, Nat.succ_mul]
    refine Nat.add_le_add ih ?_
    rw [List.flatMap_singleton]
    exact entryWords_length_le t n id _

theorem takeRead_data_le : (takeRead args s).data.length ≤ 62 := by
  unfold takeRead
  dsimp only
  split
  · exact Nat.zero_le _
  · split
    · exact Nat.zero_le _
    · split
      · exact Nat.zero_le _
      · next hfits => exact (readWords_length_le _ _ _ _ _).trans (not_lt.1 hfits)

theorem takeWrite_data_le : (takeWrite args s).data.length ≤ 62 := by
  unfold takeWrite
  dsimp only
  (repeat' split) <;> simp [refuseAt, refuse, accept]

theorem takeLoadOpen_data : (takeLoadOpen args s).data = [] := by
  unfold takeLoadOpen
  dsimp only
  (repeat' split) <;> rfl

theorem takeLoadData_data_le : (takeLoadData args s).data.length ≤ 62 := by
  unfold takeLoadData
  split <;> simp [refuse]

theorem takeCommit_data : (takeCommit args s).data = [] := by
  rcases takeCommit_cases s args with ⟨_, _, e⟩ | ⟨_, _, _, e⟩ | ⟨_, _, _, e⟩ <;> rw [e] <;> rfl

theorem takeCancel_data : (takeCancel args s).data = [] := by
  unfold takeCancel
  split <;> rfl

theorem takeHush_data : (takeHush args s).data = [] := by
  unfold takeHush
  split <;> rfl

theorem takeResume_data : (takeResume args s).data = [] := by
  unfold takeResume
  split <;> rfl

theorem takeSurveyStart_data : (takeSurveyStart args s).data = [] := by
  unfold takeSurveyStart
  split <;> rfl

theorem takeStatus_data_le : (takeStatus args s).data.length ≤ 62 := by
  unfold takeStatus
  split <;> simp [statusRecord, refuse]

/-- No reply holds more than 62 data words (R165). -/
theorem run_data_le (c : Command) : (c.run args s).data.length ≤ 62 := by
  have hnone {l : List Word} (h : l = []) : l.length ≤ 62 := by simp [h]
  cases c with
  | status => exact takeStatus_data_le s args
  | read => exact takeRead_data_le s args
  | write => exact takeWrite_data_le s args
  | loadOpen => exact hnone (takeLoadOpen_data s args)
  | loadData => exact takeLoadData_data_le s args
  | commit => exact hnone (takeCommit_data s args)
  | cancel => exact hnone (takeCancel_data s args)
  | hush => exact hnone (takeHush_data s args)
  | resume => exact hnone (takeResume_data s args)
  | surveyStart => exact hnone (takeSurveyStart_data s args)
  | loadClose => exact (by decide : 1 ≤ 62)
  | faultClear => exact (by decide : 1 ≤ 62)
  | guardClear => exact Nat.zero_le _
  | surveyStop => exact Nat.zero_le _
  | restart => exact Nat.zero_le _

/-! ### The unit between two cells, and where no assembly stands -/

/-- The Command Unit in agreement with itself. -/
def UnitOk (k : Cmu) : Prop :=
  (k.unit = .replying ↔ k.replyBuffer ≠ []) ∧ (k.unit = .assembling → k.assembly.isSome = true) ∧
  (k.unit = .idle → k.assembly = none) ∧
  (k.assembly = some .addressed → k.unit = .assembling ∧ k.nodeAddress.isSome = true) ∧
  k.words.length ≤ 63 ∧ k.replyBuffer.length ≤ 64

theorem unitInv_iff (s : State) : UnitInv s ↔ UnitOk s.cmu := Iff.rfl

/-- The Command Unit where an assembly has just ended, before its unit state follows. -/
def Unassembled (k : Cmu) : Prop := k.assembly = none ∧ (k.unit = .replying ↔ k.replyBuffer ≠ []) ∧
  k.words.length ≤ 63 ∧ k.replyBuffer.length ≤ 64

variable {s} {k l : Cmu}

theorem UnitOk.congr (hsame : k.SameUnit l) (h : UnitOk l) : UnitOk k := by
  obtain ⟨hunit, hassembly, hwords, hbuffer, haddress⟩ := hsame
  unfold UnitOk
  rwa [hunit, hassembly, hwords, hbuffer, haddress]

theorem Unassembled.congr (hsame : k.SameUnit l) (h : Unassembled l) : Unassembled k := by
  obtain ⟨hunit, hassembly, hwords, hbuffer, haddress⟩ := hsame
  unfold Unassembled
  rwa [hunit, hassembly, hwords, hbuffer]

theorem UnitOk.unassembled (h : UnitOk k) : Unassembled { k with assembly := none } :=
  ⟨rfl, h.1, h.2.2.2.2⟩

/-- Once the unit state has followed, the unit is in agreement. -/
theorem Unassembled.settled (h : Unassembled k) :
    UnitOk { k with unit := if k.unit = .replying then .replying else .idle } := by
  obtain ⟨hnone, hbuffer, hwords, hcells⟩ := h
  by_cases hreply : k.unit = .replying
  · simp [UnitOk, hnone, hreply, hbuffer.1 hreply, hwords, hcells]
  · have hempty : k.replyBuffer = [] := by simpa using mt hbuffer.2 hreply
    simp [UnitOk, hnone, hreply, hempty, hwords]

/-! ### Cells -/

theorem discardAssembly_ok (h : UnitOk s.cmu) : Unassembled (discardAssembly s).cmu := by
  rcases discardAssembly_cases s with ⟨hnone, e⟩ | ⟨_, e⟩ <;> rw [e]
  · exact ⟨hnone, h.1, h.2.2.2.2⟩
  · exact h.unassembled

theorem beginAssembly_ok (via : Addressee) (h : Unassembled s.cmu)
    (hvia : via = .addressed → s.cmu.unit ≠ .replying ∧ s.cmu.nodeAddress.isSome = true) :
    UnitOk (beginAssembly via s).cmu := by
  obtain ⟨hnone, hbuffer, _, hcells⟩ := h
  unfold beginAssembly
  by_cases hreply : s.cmu.unit = .replying
  · have hbroadcast : via ≠ .addressed := fun e => (hvia e).1 hreply
    simp [UnitOk, hreply, hbuffer.1 hreply, hcells, hbroadcast]
  · have hempty : s.cmu.replyBuffer = [] := by simpa using mt hbuffer.2 hreply
    simp only [UnitOk, hreply, hempty, if_false]
    simpa using fun e => (hvia e).2

theorem selectCell_ok (w : Word) (h : UnitOk s.cmu) : UnitOk (selectCell w s).cmu := by
  have hd := discardAssembly_ok h
  have hsame : (discardAssembly s).cmu.unit = s.cmu.unit ∧ (discardAssembly s).cmu.nodeAddress = s.cmu.nodeAddress := by
    rcases discardAssembly_cases s with ⟨_, e⟩ | ⟨_, e⟩ <;> rw [e] <;> exact ⟨rfl, rfl⟩
  unfold selectCell
  split
  · exact beginAssembly_ok .broadcast hd (by simp)
  · split
    · next haddress =>
      split
      · next hreply =>
        have hunit := hsame.1.trans hreply
        have hset := hd.settled
        rw [if_pos hunit] at hset
        exact UnitOk.congr (l := { (discardAssembly s).cmu with unit := .replying }) ⟨hunit, rfl, rfl, rfl, rfl⟩ hset
      · next hreply =>
        refine beginAssembly_ok .addressed hd fun _ => ⟨fun e => hreply (hsame.1.symm.trans e), ?_⟩
        rw [hsame.2]
        cases ha : s.cmu.nodeAddress with
        | none => simp [ha] at haddress
        | some a => rfl
    · exact hd.settled

theorem wordCell_ok (w : Word) (h : UnitOk s.cmu) : UnitOk (wordCell w s).cmu := by
  unfold wordCell
  split
  · exact h
  · split
    · next hlt =>
      obtain ⟨hbuffer, hassembling, hidle, haddressed, _, hcells⟩ := h
      exact ⟨hbuffer, hassembling, hidle, haddressed, by simpa using hlt, hcells⟩
    · exact h

/-- An answer settles the unit: to REPLYING with at most 64 cells, or to what it was apart from the assembly. -/
theorem answer_ok (via : Addressee) (code : Nat) {v : Verdict} (h : Unassembled v.after.cmu)
    (hvia : via = .addressed → v.after.cmu.nodeAddress.isSome = true) (hdata : v.data.length ≤ 62) :
    UnitOk (answer via code v).cmu := by
  cases via with
  | broadcast => exact h.settled
  | addressed =>
    obtain ⟨a, ha⟩ := Option.isSome_iff_exists.1 (hvia rfl)
    obtain ⟨hnone, _, hwords, _⟩ := h
    have hcells : v.data.length + 1 < 64 := by omega
    simp [answer, formReply, ha, UnitOk, hnone, hwords, replyCells, hcells]

end Sys2Proof.Machine
end

section
/-! The Command Unit through messages, frames and windows, and what every step keeps of it. -/

namespace Sys2Proof.Machine

variable {s t : State} {k l : Cmu}

/-! ### Messages -/

theorem settleSwap_cmu_eq (s : State) : (settleSwap s).cmu = s.cmu := by
  obtain ⟨_, _, _, _, e⟩ := settleSwap_frame s
  rw [e]

theorem afterReply_ok (c : Command) (status : Status) (h : UnitOk s.cmu) : UnitOk (c.afterReply status s).cmu := by
  unfold Command.afterReply
  split
  · split <;> exact h
  · split
    · rwa [settleSwap_cmu_eq]
    · exact h
  all_goals exact h

theorem takeCommand_ok (via : Addressee) (c : Command) (args : List Word) (h : Unassembled s.cmu)
    (hvia : via = .addressed → s.cmu.nodeAddress.isSome = true) : UnitOk (takeCommand via c args s).cmu := by
  unfold takeCommand
  split
  · exact h.settled
  · split
    · exact answer_ok via _ (v := refuse .length s) h hvia (Nat.zero_le _)
    · have hsame := run_sameUnit s args c
      refine afterReply_ok c _ (answer_ok via _ (h.congr hsame) ?_ (run_data_le s args c))
      rw [hsame.2.2.2.2]
      exact hvia

theorem completeMessage_ok (via : Addressee) (h : Unassembled s.cmu)
    (hvia : via = .addressed → s.cmu.nodeAddress.isSome = true) : UnitOk (completeMessage via s).cmu := by
  unfold completeMessage
  dsimp only
  have hrefuse (status : Status) (code : Nat) (n : Nat) :
      UnitOk (answer via code (refuse status { s with cmu := { s.cmu with damagedCount := n } })).cmu :=
    answer_ok via code (v := refuse status { s with cmu := { s.cmu with damagedCount := n } }) h hvia (Nat.zero_le _)
  split
  · exact hrefuse _ _ _
  · split
    · exact hrefuse _ _ s.cmu.damagedCount
    · split
      · exact hrefuse _ _ s.cmu.damagedCount
      · split
        · exact hrefuse _ _ s.cmu.damagedCount
        · exact takeCommand_ok via _ _ h hvia

theorem endCell_ok (h : UnitOk s.cmu) : UnitOk (endCell s).cmu := by
  unfold endCell
  split
  · exact h
  · next via hvia =>
    refine completeMessage_ok via h.unassembled fun e => ?_
    obtain ⟨_, _, _, haddressed, _⟩ := h
    exact (haddressed (e ▸ hvia)).2

theorem takeCell_ok (kind : BitVec 4) (w : Word) (h : UnitOk s.cmu) : UnitOk (takeCell kind w s).cmu := by
  rcases takeCell_cases kind w s with ⟨_, e⟩ | ⟨_, e⟩ | ⟨_, e⟩ | e <;> rw [e]
  · exact selectCell_ok w h
  · exact wordCell_ok w h
  · exact endCell_ok h
  · exact h

theorem wordCells_ok (ws : List Word) (h : UnitOk s.cmu) :
    UnitOk (ws.foldl (fun t w => wordCell w t) s).cmu := by
  induction ws generalizing s with
  | nil => exact h
  | cons w ws ih => exact ih (wordCell_ok w h)

theorem takeMessage_ok (via : Addressee) (c : Command) (args : List Word) (h : UnitOk s.cmu) :
    UnitOk (takeMessage via c args s).cmu := by
  unfold takeMessage
  split
  · split
    · exact h
    · exact endCell_ok (wordCells_ok _ (selectCell_ok _ h))
  · exact h

/-! ### Faults, failing frames and the end of traffic -/

theorem raise_unit (kind : FaultKind) (detail : Nat) (h : UnitOk s.cmu) : UnitOk (raise kind detail s).cmu := by
  obtain ⟨_, _, e⟩ := raise_frame s kind detail
  rw [e]
  exact h

theorem expireLoad_unit (n : BitVec 8) (h : UnitOk s.cmu) : UnitOk (expireLoad n s).cmu := by
  obtain ⟨_, _, e⟩ := expireLoad_frame s n
  rw [e]
  exact h

theorem settleExpiry_unit (h : UnitOk s.cmu) : UnitOk (settleExpiry s).cmu := by
  unfold settleExpiry
  split
  · exact expireLoad_unit _ h
  · exact h

theorem damageMessage_unit (h : UnitOk s.cmu) : UnitOk (damageMessage s).cmu := by
  rw [damageMessage_eq]
  exact h

theorem handBad_unit (h : UnitOk s.cmu) : UnitOk (handBad s).cmu := by
  unfold handBad
  split
  · exact damageMessage_unit h
  · exact h

theorem abandonTraffic_unit (h : UnitOk s.cmu) : UnitOk (abandonTraffic s).cmu := by
  obtain ⟨hnone, _, hwords, _⟩ := discardAssembly_ok h
  simp [abandonTraffic, UnitOk, hnone, hwords]

theorem takeEvent_unit (j : Taken) (h : UnitOk s.cmu) : UnitOk (takeEvent j s).cmu := by
  unfold takeEvent
  dsimp only
  have hlost : UnitOk (if j.lost then raise .lockLost 0 { s with rrx := j.rrx } else { s with rrx := j.rrx }).cmu := by
    split
    · exact raise_unit (s := { s with rrx := j.rrx }) _ _ h
    · exact h
  split
  · exact abandonTraffic_unit hlost
  · exact hlost

/-! ### Windows -/

/-- A reply cell that goes out leaves the rest of the reply, or the unit as the assembly has it. -/
theorem offerCell_ok (h : UnitOk k) : UnitOk (offerCell k).2 := by
  obtain ⟨hbuffer, hassembling, hidle, haddressed, hwords, hcells⟩ := id h
  rcases offerCell_cases k with ⟨_, e⟩ | ⟨last, hlast, e⟩ | ⟨head, next, rest, hrest, e⟩ <;> rw [e]
  · exact h
  · have hreply : k.unit = .replying := hbuffer.2 (by simp [hlast])
    have hnot : k.assembly ≠ some .addressed := fun ha => by simp [hreply] at haddressed; exact haddressed ha
    cases hk : k.assembly with
    | none => simp [UnitOk, hwords]
    | some via =>
      have hvia : via ≠ .addressed := by simpa [hk] using hnot
      simp [UnitOk, hwords, hvia]
  · have hreply : k.unit = .replying := hbuffer.2 (by simp [hrest])
    rw [hrest] at hcells
    exact ⟨by simp [hreply], hassembling, hidle, haddressed, hwords, (Nat.le_succ _).trans hcells⟩

theorem forwardedCell_ok (f : Frame) (h : UnitOk k) : UnitOk (forwardedCell f k).2 := by
  have hoffer := offerCell_ok h
  unfold forwardedCell
  split
  · split
    · next e =>
      rw [e] at hoffer
      exact hoffer
    · next e =>
      rw [e] at hoffer
      exact hoffer
  · exact h

theorem sendFrame_unit (o : Opening) (h : UnitOk s.cmu) : UnitOk (sendFrame o s).cmu := by
  have hgood (f : Frame) : UnitOk (forwardGood f s).cmu := forwardedCell_ok f h
  unfold sendFrame
  split
  case h_3 => exact hgood _
  case h_7 => exact hgood _
  all_goals exact h

theorem idleStart_unit (o : Opening) (d : Nat) (h : UnitOk s.cmu) : UnitOk (idleStart o d s).cmu := by
  obtain ⟨_, _, _, _, e⟩ := idleStart_frame s o d
  rw [e]
  exact h

theorem windowStaged_cmu (o : Opening) (d : Nat) (w : State) :
    (windowStaged o d w).cmu = (idleStart o d (sendFrame o w)).cmu := by
  obtain ⟨_, _, _, e⟩ := earlyStages_frame (idleStart o d (sendFrame o w))
  unfold windowStaged
  rw [e]
  rfl

theorem windowStart_unit (time : Nat) (j : Taken) (h : UnitOk s.cmu) : UnitOk (windowStart time j s).cmu := by
  have hfirst : UnitOk (expireFirst s.draws { s with draws := s.draws + 4 }).cmu := by
    obtain ⟨_, _, _, _, e⟩ := expireFirst_frame { s with draws := s.draws + 4 } s.draws
    rw [e]
    exact h
  rw [windowStart, startBlocks_cmu]
  exact takeEvent_unit j hfirst

theorem takeMark_cmu_eq (s : State) : (takeMark s).cmu = s.cmu := by
  obtain ⟨_, _, e⟩ := takeMark_frame (s := s)
  rw [e]

theorem deliver_unit (o : Opening) (shed d : Nat) (h : UnitOk s.cmu) : UnitOk (deliver o shed d s).cmu := by
  have hmark (b : Bool) {t : State} (ht : UnitOk t.cmu) : UnitOk (if b then takeMark t else t).cmu := by
    split
    · rwa [takeMark_cmu_eq]
    · exact ht
  have hshed {t : State} (ht : UnitOk t.cmu) : UnitOk (recordShed shed t).cmu := ht
  have hlate (b : Bool) {t u : State} (ht : UnitOk t.cmu) (hu : UnitOk u.cmu) : UnitOk (if b then t else u).cmu := by
    split
    · exact ht
    · exact hu
  unfold deliver
  split
  · dsimp only
    refine hlate _ (hshed ?_) ?_ <;>
      exact hmark _ (takeCell_ok _ _ (hlate _ (hmark _ h) (hshed (hmark _ h))))
  · exact handBad_unit (hshed h)

theorem openWindow_unit (time : Nat) (j : Taken) (o : Opening) (h : UnitOk s.cmu) :
    UnitOk (openWindow time j o s).cmu := by
  rw [openWindow_eq]
  refine settleExpiry_unit (deliver_unit _ _ _ ?_)
  rw [windowStaged_cmu]
  exact idleStart_unit _ _ (sendFrame_unit _ (windowStart_unit time j h))

theorem endWindow_unit (h : UnitOk s.cmu) : UnitOk (endWindow s).cmu := by
  obtain ⟨_, _, _, _, _, _, _, _, _, _, _, _, _, _, e⟩ := endWindow_frame s
  rw [e]
  exact h

/-! ### Every step -/

theorem ringOutcome_unit {time : Nat} {j : Taken} (h : UnitOk s.cmu) (hs : ringOutcome time j s = .next t) :
    UnitOk t.cmu := by
  rcases ringOutcome_next hs with ⟨o, _, _, e⟩ | ⟨_, e⟩ <;> rw [e]
  · exact openWindow_unit time j o (endWindow_unit h)
  · exact takeEvent_unit j (handBad_unit h)

theorem windowEndIf_unit {due : Bool} (h : UnitOk s.cmu) (hs : windowEndIf due s = .next t) : UnitOk t.cmu := by
  rcases windowEndIf_next hs with ⟨_, _, _, rfl⟩ | ⟨_, rfl⟩
  · exact endWindow_unit h
  · exact h

theorem addRefresh_unit (h : UnitOk s.cmu) : UnitOk (addRefresh s).cmu := by
  unfold addRefresh
  split
  · exact h
  · exact raise_unit (s := { s with dmc := { s.dmc with
      refreshOverruns := saturate s.dmc.refreshOverruns 1 } }) _ _ h

theorem tripDetector_unit (i : Fin 24) (h : UnitOk s.cmu) : UnitOk (tripDetector i s).cmu := by
  unfold tripDetector overflowNow
  dsimp only
  split
  · split
    · split
      · exact raise_unit (s := { s with sgd := _ }) _ _ h
      · exact h
    · exact h
  · exact h

theorem exec_unit (i : Instr) (h : UnitOk s.cmu) (hs : exec i s = .next t) : UnitOk t.cmu := by
  have hmessage (via : Addressee) (c : Command) (args : List Word)
      (hm : Host.Outcome.next (takeMessage via c args s) = (.next t : Host.Outcome State Fault Refusal)) :
      UnitOk t.cmu := by
    cases hm
    exact takeMessage_ok via c args h
  cases i with
  | powerOnReset straps time =>
    cases hs
    simp [UnitOk, powerOn, State.reset]
  | frameArrival time f => exact ringOutcome_unit h hs
  | watchExpiry =>
    rcases execWatchExpiry_next hs with ⟨_, _, hs⟩ | ⟨_, rfl⟩
    · exact ringOutcome_unit h hs
    · exact h
  | localFrameTimerExpiry =>
    rcases execLocalFrameTimerExpiry_next hs with ⟨_, _, hs⟩ | ⟨_, rfl⟩
    · exact ringOutcome_unit h hs
    · exact h
  | refreshTimerExpiry =>
    simp only [exec, execRefreshTimerExpiry] at hs
    split at hs <;> cases hs
    · exact addRefresh_unit (s := { s with dmc := _ }) h
    · exact h
  | windowEnd =>
    obtain ⟨rfl, _⟩ := execWindowEnd_next hs
    exact endWindow_unit h
  | status via args => exact hmessage via .status args hs
  | read via args => exact hmessage via .read args hs
  | write via args => exact hmessage via .write args hs
  | loadOpen via args => exact hmessage via .loadOpen args hs
  | loadData via args => exact hmessage via .loadData args hs
  | loadClose via args => exact hmessage via .loadClose args hs
  | commit via args => exact hmessage via .commit args hs
  | cancel via args => exact hmessage via .cancel args hs
  | hush via args => exact hmessage via .hush args hs
  | resume via args => exact hmessage via .resume args hs
  | guardClear via args => exact hmessage via .guardClear args hs
  | surveyStart via args => exact hmessage via .surveyStart args hs
  | surveyStop via args => exact hmessage via .surveyStop args hs
  | faultClear via args => exact hmessage via .faultClear args hs
  | restart via args => exact hmessage via .restart args hs
  | loadTimeout =>
    cases hs
    unfold loadTimeoutNow
    split
    · exact expireLoad_unit _ h
    · exact h
  | forgivenessExpiry i =>
    cases hs
    obtain ⟨_, e⟩ := forgiveDetector_frame i s
    rwa [e]
  | recoveryExpiry i => cases hs; exact h
  | trip i => cases hs; exact tripDetector_unit i h
  | fadeTargetAction => exact windowEndIf_unit h hs
  | fadeInComplete => exact windowEndIf_unit h hs
  | levelFinish =>
    cases hs
    obtain ⟨_, _, e⟩ := levelFinishNow_frame s
    rwa [e]
  | decayFinish =>
    cases hs
    obtain ⟨_, _, e⟩ := decayFinishNow_frame s
    rwa [e]

/-- Settles O56: where an assembly ends, the answer or the unit state that follows restores the agreement. -/
theorem stepsKeepTheCommandUnit : Obligations.StepsKeepTheCommandUnit := by
  intro s t h hs
  rw [unitInv_iff] at h ⊢
  rcases step_cases hs with ⟨c, rest, _, hs⟩ | ⟨_, rfl⟩
  · exact exec_unit (s := { s with pending := rest }) c h hs
  · exact h

end Sys2Proof.Machine
end

section
/-! The machine as a whole: the queue, the commands that complete, and the power-on reset. -/

namespace Sys2Proof.Machine

/-- Settles O1. -/
theorem stepRunsTheFrontCommand : Obligations.StepRunsTheFrontCommand := by
  refine ⟨fun c rest s h => ?_, fun s h => ?_⟩ <;> rw [step, h]

/-! ### Completion -/

variable {s t : State}

/-- What `exec` answers: a state, or the one fault where a line leaves the memory. -/
def Completes (s : State) (r : Host.Outcome State Fault Refusal) : Prop :=
  (∃ t, r = .next t) ∨ (r = .fault .absentRow ∧ rowsExist s = false)

theorem completes_next (t : State) : Completes s (.next t) := .inl ⟨t, rfl⟩

theorem ringOutcome_completes (time : Nat) (j : Taken) (s : State) : Completes s (ringOutcome time j s) := by
  unfold ringOutcome
  split
  · next h => exact .inr ⟨rfl, by simpa using (Bool.and_eq_true_iff.1 h).2⟩
  · exact completes_next _

theorem windowEndIf_completes (due : Bool) (s : State) : Completes s (windowEndIf due s) := by
  unfold windowEndIf
  split
  · split
    · exact completes_next _
    · next h => exact .inr ⟨rfl, by simpa using h⟩
  · exact completes_next _

theorem exec_completes (c : Instr) (s : State) : Completes s (exec c s) := by
  cases c with
  | frameArrival time f => exact ringOutcome_completes time _ s
  | watchExpiry =>
    show Completes s (execWatchExpiry s)
    unfold execWatchExpiry
    split
    · exact ringOutcome_completes _ _ s
    · exact completes_next s
  | localFrameTimerExpiry =>
    show Completes s (execLocalFrameTimerExpiry s)
    unfold execLocalFrameTimerExpiry
    split
    · exact ringOutcome_completes _ _ s
    · exact completes_next s
  | refreshTimerExpiry =>
    show Completes s (execRefreshTimerExpiry s)
    unfold execRefreshTimerExpiry
    split <;> exact completes_next _
  | windowEnd =>
    show Completes s (execWindowEnd s)
    unfold execWindowEnd
    split
    · next h => exact .inr ⟨rfl, by simpa using (Bool.and_eq_true_iff.1 h).2⟩
    · exact completes_next _
  | fadeTargetAction => exact windowEndIf_completes _ s
  | fadeInComplete => exact windowEndIf_completes _ s
  | _ => exact completes_next _

theorem pending_keptInWindow (queue : List Instr) : KeptInWindow fun s => s.pending = queue where
  cmu _ _ h := h
  effect c args s _ h := by
    obtain ⟨_, _, _, _, _, _, _, _, _, _, _, _, _, _, _, _, e⟩ := (effect_acts s args c).frame
    rwa [e]
  mark s h := by
    obtain ⟨_, _, e⟩ := takeMark_frame (s := s)
    rwa [e]
  shed _ _ _ _ h := h

/-- No command reads or changes the queue of commands. -/
theorem pending_kept (queue : List Instr) : KeptByEvents fun s => s.pending = queue where
  toKeptInWindow := pending_keptInWindow queue
  powerOn _ _ _ h := h
  closed _ h := h
  ended s _ _ h := by rwa [endWindow_pending]
  opened s time j o _ _ _ h := by
    refine (pending_keptInWindow queue).openWindow (fun _ ht => ht) time j o ?_
    rwa [windowStaged_pending, windowStart_pending]
  quiet _ _ _ _ _ h := h
  refresh _ _ _ _ h := h
  forgiven s i h := by
    obtain ⟨_, e⟩ := forgiveDetector_frame i s
    rwa [e]
  recovered _ _ h := h
  tripped s i h := by
    obtain ⟨_, _, e⟩ := tripDetector_frame i s
    rwa [e]
  levelFinish s h := by
    obtain ⟨_, _, e⟩ := levelFinishNow_frame s
    rwa [e]
  decayFinish s h := by
    obtain ⟨_, _, e⟩ := decayFinishNow_frame s
    rwa [e]

/-- Settles O2. -/
theorem everyCommandCompletes : Obligations.EveryCommandCompletes := by
  intro c s
  have hdone := exec_completes c s
  refine ⟨fun hrows => ?_, fun r hr => ?_, fun f hf => ?_, fun t ht => (pending_kept s.pending).exec c rfl ht⟩
  · rcases hdone with hnext | ⟨_, habsent⟩
    · exact hnext
    · simp [hrows] at habsent
  · rcases hdone with ⟨t, e⟩ | ⟨e, _⟩ <;> simp [e] at hr
  · rcases hdone with ⟨t, e⟩ | ⟨e, habsent⟩
    · simp [e] at hf
    · rw [e] at hf
      cases hf
      exact ⟨rfl, habsent⟩

/-! ### Reset -/

/-- Settles O3. -/
theorem powerOnResetSetsEveryBlock : Obligations.PowerOnResetSetsEveryBlock := by
  intro straps time s
  have hbank (n : BankName) : (powerOn straps time s).tables.bank n = SceneBank.blank := by cases n <;> rfl
  refine ⟨powerOn straps time s, rfl, ?ring, ⟨rfl, rfl⟩, ?unit, ?tables, ⟨rfl, rfl, rfl, rfl, rfl, rfl⟩, ?lines, ?memory,
    ?taps, ?stages, ⟨rfl, rfl, rfl, rfl, rfl, rfl, rfl, rfl⟩, ?guard, ?survey, rfl, rfl⟩
  case ring => simp [powerOn, State.reset, Rrx.powerOn]
  case unit =>
    have haddress : (strapAddress straps).map Fin.val = if straps.toNat < 63 then some straps.toNat else none := by
      unfold strapAddress
      split <;> rfl
    simp [powerOn, State.reset, haddress]
  case tables =>
    simp only [hbank]
    simp [powerOn, State.reset, Tables.initial, SceneBank.blank, Triple.words, Pair.words]
  case lines => simp [powerOn, State.reset]
  case memory =>
    have htiming : Timing.default = timingOf ⟨0x604CB0#24, 0x00000F#24⟩ := by decide
    exact ⟨htiming, rfl, rfl, rfl, rfl, rfl, rfl, rfl, rfl, rfl⟩
  case taps => simp [powerOn, State.reset]
  case stages => simp [powerOn, State.reset, QueueEntry.blank]
  case guard => simp [powerOn, State.reset, Detector.initial, DetectorEntry.zero, Group.initial]
  case survey => simp [powerOn, State.reset]

/-- Settles O4: a power-on reset meets each invariant, and no invariant tells it from the machine right after reset. -/
theorem resetMeetsEveryInvariant : Obligations.ResetMeetsEveryInvariant := by
  have hguard : GuardInv State.reset := guardInv_powerOn (s := State.reset) 0 0
  have hloader : LoaderInv State.reset := (loaderInv_iff _).2 (closed_ok 0 State.reset.tld)
  have hsurvey : SurveyInv State.reset := idle_ok rfl rfl rfl rfl (Nat.zero_le _)
  refine ⟨linesInv_reset, ⟨rfl, fun _ hc => by cases hc⟩, rfl, ?_, ?_, ?_, ⟨Nat.zero_le _, rfl⟩, budgetInv_reset,
    hguard, hloader, hsurvey⟩
  · simp [ReceiverInv, ringOk, State.reset, Tables.initial]
    decide
  · simp [SceneInv, State.reset, swapTarget]
  · simp [UnitInv, State.reset]

end Sys2Proof.Machine
end

section
/-! Messages in general: what a row meets in the Command Unit, the table of commands, and a row whose command is judged. -/

namespace Sys2Proof.Machine

variable {s u : State} {via : Addressee} {c : Command} {args : List Word}

/-! ### Rows -/

/-- A row that is judged answers its command's verdict on the state that the message leaves. -/
theorem exec_row_answered {status : Status} {data : List Word} (h : Ready via s) (hl : args.length ≤ 62)
    (hb : via = .broadcast → c.mayBroadcast = true) (ha : c.accepts args = true)
    (hrun : c.run args (delivered c args s) = ⟨delivered c args u, status, data⟩)
    (hn : u.cmu.nodeAddress = s.cmu.nodeAddress) :
    exec (c.row via args) s = .next (c.afterReply status (answered via c args status data u)) := by
  rw [exec_row_run c via args s h hl hb ha, hrun, answer_delivered via c args status data u]
  intro e
  rw [hn]
  exact (h.2.2 e).1

/-- The END of a message whose assembly is over finds none. -/
theorem wordCells_idle (ws : List Word) (h : s.cmu.assembly = none) : ws.foldl (fun t w => wordCell w t) s = s := by
  induction ws with
  | nil => rfl
  | cons w ws ih =>
    have hone : wordCell w s = s := by rw [wordCell, h]
    rw [List.foldl_cons, hone, ih]

theorem endCell_idle (h : s.cmu.assembly = none) : endCell s = s := by rw [endCell, h]

theorem selectAddress_ofNat (a : Fin 63) : selectAddress (BitVec.ofNat 24 a.val) = a.val := by
  have := a.isLt
  simp only [selectAddress, field, BitVec.toNat_ofNat, Nat.shiftRight_zero]
  omega

/-- A SELECT of this part while a reply is held drops its message (R168). -/
theorem selectCell_replying {a : Fin 63} (haddress : s.cmu.nodeAddress = some a) (hunit : s.cmu.unit = .replying)
    (hnone : s.cmu.assembly = none) : selectCell (BitVec.ofNat 24 a.val) s = dropMessage s := by
  have h63 : a.val ≠ 63 := by have := a.isLt; omega
  have hdiscard : discardAssembly s = s := by rw [discardAssembly, hnone]
  simp [selectCell, selectAddress_ofNat, h63, haddress, hunit, hdiscard]

/-- A SELECT sees of a partial message that it discards only its count. -/
theorem selectCell_discard (w : Word) {v : Addressee} (h : s.cmu.assembly = some v) : selectCell w s =
    selectCell w { s with cmu := { s.cmu with assembly := none, truncated := min (s.cmu.truncated + 1) 65535 } } := by
  have hdiscard : discardAssembly s = { s with cmu := { s.cmu with
      assembly := none, truncated := min (s.cmu.truncated + 1) 65535 } } := by
    simp only [discardAssembly, h]
    rfl
  unfold selectCell
  rw [hdiscard]
  rfl

/-- Settles O5. -/
theorem messagesMeetTheUnitState : Obligations.MessagesMeetTheUnitState := by
  intro c args s
  refine ⟨fun via hlock => ?_, fun haddress => ?_, fun hlock hnode hunit hnone => ?_, fun via hlock hpartial hnode => ?_⟩ <;>
    rw [exec_row, takeMessage]
  · rw [if_neg (by simp [hlock])]
  · simp [addressFor, haddress]
  · obtain ⟨a, ha⟩ := Option.isSome_iff_exists.1 hnode
    have hdropped : (dropMessage s).cmu.assembly = none := hnone
    have hfor : addressFor .addressed s.cmu = some (BitVec.ofNat 24 a.val) := by simp [addressFor, ha]
    rw [if_pos hlock, hfor]
    dsimp only
    rw [selectCell_replying ha hunit hnone, wordCells_idle _ hdropped, endCell_idle hdropped]
    rfl
  · obtain ⟨v, hv⟩ := Option.isSome_iff_exists.1 hpartial
    have hfor : ∃ a, addressFor via s.cmu = some a := by
      cases via with
      | broadcast => exact ⟨_, rfl⟩
      | addressed =>
        obtain ⟨a, ha⟩ := Option.isSome_iff_exists.1 (hnode rfl)
        exact ⟨_, by rw [addressFor, ha]; rfl⟩
    obtain ⟨a, ha⟩ := hfor
    have hafter : addressFor via { s.cmu with assembly := none, truncated := min (s.cmu.truncated + 1) 65535 } =
        some a := by
      rw [← ha]
      cases via <;> rfl
    rw [exec_row, takeMessage, if_pos hlock, if_pos hlock, ha, hafter]
    dsimp only
    rw [selectCell_discard a hv]

/-! ### The command table -/

/-- A message of a wrong count is refused with LENGTH (R161, check 5). -/
theorem exec_row_length (h : Ready via s) (hl : args.length ≤ 62) (hb : via = .broadcast → c.mayBroadcast = true)
    (ha : c.accepts args = false) : exec (c.row via args) s = .next (answered via c args .length [] s) := by
  rw [exec_row, takeMessage_eq via c args s h hl, takeCommand, if_neg (fun hno => hno.2 (hb hno.1)), if_pos (by simp [ha])]
  exact congrArg _ (answer_delivered via c args .length [] s fun e => (h.2.2 e).1)

/-- A broadcast of a command that may not be broadcast is discarded (R161, check 4). -/
theorem exec_row_discarded (h : Ready .broadcast s) (hl : args.length ≤ 62) (hb : c.mayBroadcast = false) :
    exec (c.row .broadcast args) s = .next (answered .broadcast c args .ok [] s) := by
  rw [exec_row, takeMessage_eq .broadcast c args s h hl, takeCommand, if_pos ⟨rfl, by simp [hb]⟩]
  exact congrArg _ (answer_delivered .broadcast c args .ok [] s fun e => by cases e)

/-- Where R162 has a range of counts. -/
theorem accepts_write_cons (a : Word) (rest : List Word) : Command.write.accepts (a :: rest) = true ↔
    1 ≤ rest.length ∧ rest.length ≤ 61 ∧ (11 ≤ argTable a ∨ rest.length % tableWidth (argTable a) = 0) := by
  have hlong : rest.length + 1 ≤ 62 ↔ rest.length ≤ 61 := by omega
  simp [Command.accepts, writeCountFits, argAt, and_assoc, Nat.succ_le_iff, hlong]

/-- The widths of R181, in the order of the ids. -/
theorem tableWidths_getElem? (id : Nat) :
    [3, 3, 3, 1, 1, 1, 2, 1, 2, 1, 3][id]? = if id < 11 then some (tableWidth id) else none := by
  match id with
  | 0 | 1 | 2 | 3 | 4 | 5 | 6 | 7 | 8 | 9 | 10 => rfl
  | n + 11 => simp

/-- Settles O6. -/
theorem wrongMessagesHaveNoEffect : Obligations.WrongMessagesHaveNoEffect := by
  refine ⟨fun c via args s h hl => ⟨fun ha hb => exec_row_length h hl hb ha, fun e hb => ?_⟩, ?_, rfl, rfl, rfl, ?_⟩
  · subst e
    exact exec_row_discarded h hl hb
  · intro row hrow args
    simp only [List.mem_cons, List.not_mem_nil, or_false] at hrow
    rcases hrow with rfl | rfl | rfl | rfl | rfl | rfl | rfl | rfl | rfl | rfl | rfl | rfl | rfl | rfl <;>
      refine ⟨rfl, rfl, ?_⟩ <;> simp [Command.accepts] <;> omega
  · intro a rest
    rw [accepts_write_cons]
    refine and_congr_right fun _ => and_congr_right fun _ => ?_
    simp only [tableWidths_getElem?]
    by_cases hid : argTable a < 11
    · have hid' : field a 23 20 < 11 := hid
      simp [hid', argTable]
    · have hid' : ¬field a 23 20 < 11 := hid
      simp [hid', not_lt.1 hid]

end Sys2Proof.Machine
end

section
/-! STATUS, FAULT-CLEAR, READ and WRITE, judged as rows. -/

namespace Sys2Proof.Machine

variable {s u : State} {args : List Word}

/-! ### STATUS and FAULT-CLEAR -/

theorem takeStatus_zero {w : Word} (h : field w 1 0 = 0) (s : State) :
    takeStatus [w] s = ⟨s, .ok, statusRecord s⟩ := by
  simp [takeStatus, argAt, h]

theorem takeStatus_one {w : Word} (h : field w 1 0 = 1) (s : State) :
    takeStatus [w] s = ⟨zeroCounters s, .ok, statusRecord s⟩ := by
  simp [takeStatus, argAt, h]

theorem takeStatus_two {w : Word} (h : 2 ≤ field w 1 0) (s : State) : takeStatus [w] s = refuse .range s := by
  have hw : field (argAt [w] 0) 1 0 = field w 1 0 := rfl
  rw [takeStatus, hw]
  split
  · next e => omega
  · next e => omega
  · rfl

/-- Settles O7. -/
theorem statusAndFaultClearReport : Obligations.StatusAndFaultClearReport := by
  refine ⟨fun w s h => ⟨fun hw => ?_, fun hw => ?_, fun hw => ?_⟩, fun s h => ?_⟩
  · exact exec_row_answered (c := .status) (u := s) h (by simp) (by simp) rfl (takeStatus_zero hw _) rfl
  · exact exec_row_answered (c := .status) (u := zeroCounters s) h (by simp) (by simp) rfl (takeStatus_one hw _) rfl
  · exact exec_row_answered (c := .status) (u := s) h (by simp) (by simp) rfl (takeStatus_two hw _) rfl
  · exact exec_row_answered (c := .faultClear) (u := { s with cmu := { s.cmu with fault := none, laterCount := 0 } }) h
      (by simp) (by simp) rfl rfl rfl

/-! ### READ -/

theorem takeRead_absent {a b : Word} (h : tableEntries (argTable a) = none) (s : State) :
    takeRead [a, b] s = refuse .range s := by
  simp [takeRead, argAt, h]

theorem takeRead_range {a b : Word} {entries : Nat} (h : tableEntries (argTable a) = some entries)
    (hbad : argCount b = 0 ∨ 1024 < argCount b ∨ entries < argStart a + argCount b ∨
      62 < argCount b * tableWidth (argTable a)) (s : State) : takeRead [a, b] s = refuse .range s := by
  unfold takeRead
  simp only [argAt, List.getD_cons_zero, List.getD_cons_succ, h]
  split
  · rfl
  · next hgood =>
    rw [if_pos]
    tauto

theorem takeRead_run {a b : Word} {entries : Nat} (h : tableEntries (argTable a) = some entries)
    (hcount : 1 ≤ argCount b) (hmax : argCount b ≤ 1024) (hfits : argStart a + argCount b ≤ entries)
    (hwords : argCount b * tableWidth (argTable a) ≤ 62) (s : State) : takeRead [a, b] s =
      ⟨s, .ok, readWords s.tables (selectedBank s (argShadow a)) (argTable a) (argStart a) (argCount b)⟩ := by
  unfold takeRead
  simp only [argAt, List.getD_cons_zero, List.getD_cons_succ, h]
  rw [if_neg (by omega), if_neg (by omega)]

theorem entryWords_length (t : Tables) (n : BankName) {id : Nat} (hid : id < 11) (i : Nat) :
    (t.entryWords n id i).length = tableWidth id := by
  match id, hid with
  | 0, _ | 1, _ | 2, _ | 3, _ | 4, _ | 5, _ | 6, _ | 7, _ | 8, _ | 9, _ | 10, _ => rfl

/-- The words of a run of entries of one width stand in order. -/
theorem flatMap_range_getElem? {f : Nat → List Word} {width : Nat} (hf : ∀ j, (f j).length = width) {count j k : Nat}
    (hj : j < count) (hk : k < width) : ((List.range count).flatMap f)[j * width + k]? = (f j)[k]? := by
  induction count with
  | zero => omega
  | succ count ih =>
    have hlen : ((List.range count).flatMap f).length = count * width := by
      simp [List.length_flatMap, hf]
    rw [List.range_succ, List.flatMap_append, List.flatMap_singleton]
    rcases Nat.lt_succ_iff_lt_or_eq.1 hj with hlt | rfl
    · rw [List.getElem?_append_left, ih hlt]
      rw [hlen]
      calc j * width + k < j * width + width := by omega
        _ = (j + 1) * width := (Nat.succ_mul _ _).symm
        _ ≤ count * width := Nat.mul_le_mul_right _ hlt
    · rw [List.getElem?_append_right (by omega), hlen, Nat.add_sub_cancel_left]

theorem id_lt_of_entries {id entries : Nat} (h : tableEntries id = some entries) : id < 11 := by
  by_contra hge
  obtain ⟨n, rfl⟩ := Nat.exists_eq_add_of_le' (not_lt.1 hge)
  simp [tableEntries] at h

theorem entries_le {id entries : Nat} (h : tableEntries id = some entries) : entries ≤ 1024 := by
  match id, id_lt_of_entries h with
  | 0, _ | 1, _ | 2, _ | 3, _ | 4, _ | 5, _ | 6, _ | 7, _ | 8, _ | 9, _ | 10, _ => cases h; decide

/-- Settles O9. -/
theorem readReturnsStoredWords : Obligations.ReadReturnsStoredWords := by
  intro a b s h
  refine ⟨fun hnone => ?_, fun entries hentries => ⟨fun hbad => ?_, fun hcount hfits hwords => ?_⟩⟩
  · exact exec_row_answered (c := .read) (u := s) h (by simp) (by simp) rfl (takeRead_absent hnone _) rfl
  · exact exec_row_answered (c := .read) (u := s) h (by simp) (by simp) rfl (takeRead_range hentries hbad _) rfl
  · have hid := id_lt_of_entries hentries
    have hmax : argCount b ≤ 1024 := by
      have := entries_le hentries
      omega
    refine ⟨_, exec_row_answered (c := .read) (u := s) h (by simp) (by simp) rfl
      (takeRead_run hentries hcount hmax hfits hwords _) rfl, ?_, fun j k hj hk => ?_⟩
    · simp [readWords, List.length_flatMap, entryWords_length _ _ hid]
    · exact flatMap_range_getElem? (fun i => entryWords_length _ _ hid _) hj hk

/-! ### WRITE -/

section
variable {a : Word} {ws : List Word}

/-- The table that a WRITE would leave (R183). -/
def writeResult (a : Word) (ws : List Word) (s : State) : Tables :=
  s.tables.storeRun (shadowName s) (argTable a) (argStart a) (entriesOf (tableWidth (argTable a)) ws)

/-- The entries that a WRITE carries. -/
def writeEntries (a : Word) (ws : List Word) : List (List Word) := entriesOf (tableWidth (argTable a)) ws

/-- An entry of a WRITE's run is bad. -/
def writeBad (a : Word) (ws : List Word) (s : State) (j : Nat) : Bool :=
  badEntry (writeResult a ws s) (argStart a) (writeEntries a ws).length (argTable a) (argStart a + j)

theorem takeWrite_closed (hid : 10 ≤ argTable a) (s : State) : takeWrite (a :: ws) s = refuseAt (argStart a) s :=
  if_pos hid

theorem takeWrite_active (hid : argTable a ≤ 2) (hbank : argShadow a = false) (s : State) :
    takeWrite (a :: ws) s = refuse .state s :=
  (if_neg (show ¬10 ≤ argTable a by omega)).trans (if_pos ⟨hid, by simp [argAt, hbank]⟩)

theorem takeWrite_busy (hid : argTable a ≤ 2) (hbank : argShadow a = true)
    (hbusy : s.scc.shadowLocked = true ∨ s.tld.isOpen = true) : takeWrite (a :: ws) s = refuse .busy s := by
  refine (if_neg (show ¬10 ≤ argTable a by omega)).trans ((if_neg (by simp [argAt, hbank])).trans ?_)
  by_cases hlock : s.scc.shadowLocked = true
  · exact if_pos ⟨hid, hlock⟩
  · exact (if_neg (fun h => hlock h.2)).trans (if_pos ⟨hid, hbusy.resolve_left hlock⟩)

/-- A WRITE that the bank and the loader admit is judged by its run and by its entries. -/
theorem takeWrite_admitted (hadmit : 3 ≤ argTable a ∨
      (argShadow a = true ∧ s.scc.shadowLocked = false ∧ s.tld.isOpen = false)) (hid : argTable a < 10) :
    takeWrite (a :: ws) s =
      if (tableEntries (argTable a)).getD 0 < argStart a + (writeEntries a ws).length then
        refuseAt (max (argStart a) ((tableEntries (argTable a)).getD 0)) s
      else
        match (List.range (writeEntries a ws).length).find? (writeBad a ws s) with
        | some j => refuseAt (argStart a + j) s
        | none => accept { s with tables := writeResult a ws s } := by
  have hactive : ¬(argTable a ≤ 2 ∧ ¬argShadow a = true) := by rintro ⟨h, h'⟩; rcases hadmit with h3 | h3 <;> simp_all; omega
  have hlocked : ¬(argTable a ≤ 2 ∧ s.scc.shadowLocked = true) := by
    rintro ⟨h, h'⟩; rcases hadmit with h3 | h3 <;> simp_all; omega
  have hopen : ¬(argTable a ≤ 2 ∧ s.tld.isOpen = true) := by rintro ⟨h, h'⟩; rcases hadmit with h3 | h3 <;> simp_all; omega
  exact (if_neg (show ¬10 ≤ argTable a by omega)).trans ((if_neg hactive).trans ((if_neg hlocked).trans (if_neg hopen)))

theorem find?_range_first {p : Nat → Bool} {n j : Nat} (hj : j < n) (hp : p j = true) (hfirst : ∀ k < j, p k = false) :
    (List.range n).find? p = some j := by
  rw [List.find?_range_eq_some]
  exact ⟨hp, List.mem_range.2 hj, fun k hk => by simp [hfirst k hk]⟩

theorem find?_range_none {p : Nat → Bool} {n : Nat} (h : ∀ k < n, p k = false) : (List.range n).find? p = none := by
  rw [List.find?_range_eq_none]
  exact fun k hk => by simp [h k hk]

section
variable (hadmit : 3 ≤ argTable a ∨ (argShadow a = true ∧ s.scc.shadowLocked = false ∧ s.tld.isOpen = false))
  (hid : argTable a < 10)
include hadmit hid

theorem takeWrite_long (hlong : (tableEntries (argTable a)).getD 0 < argStart a + (writeEntries a ws).length) :
    takeWrite (a :: ws) s = refuseAt (max (argStart a) ((tableEntries (argTable a)).getD 0)) s :=
  (takeWrite_admitted hadmit hid).trans (if_pos hlong)

variable (hroom : argStart a + (writeEntries a ws).length ≤ (tableEntries (argTable a)).getD 0)
include hroom

/-- The first bad entry of the run is named (R183, R184). -/
theorem takeWrite_bad {j : Nat} (hj : j < (writeEntries a ws).length) (hbad : writeBad a ws s j = true)
    (hfirst : ∀ k < j, writeBad a ws s k = false) : takeWrite (a :: ws) s = refuseAt (argStart a + j) s := by
  rw [takeWrite_admitted hadmit hid, if_neg (not_lt.2 hroom), find?_range_first hj hbad hfirst]

theorem takeWrite_good (hgood : ∀ j < (writeEntries a ws).length, writeBad a ws s j = false) :
    takeWrite (a :: ws) s = accept { s with tables := writeResult a ws s } := by
  rw [takeWrite_admitted hadmit hid, if_neg (not_lt.2 hroom), find?_range_none hgood]

end

/-- Settles O10. -/
theorem writeStoresOrRefuses : Obligations.WriteStoresOrRefuses := by
  intro a ws s h hfits
  have hlen : (a :: ws).length ≤ 62 := by
    simp only [writeCountFits, Bool.and_eq_true, decide_eq_true_eq] at hfits
    exact hfits.1.2
  have hrow {u : State} {status : Status} {data : List Word}
      (hrun : takeWrite (a :: ws) (delivered .write (a :: ws) s) = ⟨delivered .write (a :: ws) u, status, data⟩)
      (hn : u.cmu.nodeAddress = s.cmu.nodeAddress) : exec (.write .addressed (a :: ws)) s =
        .next (answered .addressed .write (a :: ws) status data u) :=
    exec_row_answered (c := .write) h hlen (by simp) hfits hrun hn
  refine ⟨fun hid => hrow (u := s) (takeWrite_closed hid _) rfl,
    fun hid hbank => hrow (u := s) (takeWrite_active hid hbank _) rfl,
    fun hid hbank hbusy => hrow (u := s) (takeWrite_busy hid hbank hbusy) rfl, fun hadmit hid => ?_⟩
  refine ⟨fun hlong => hrow (u := s) (takeWrite_long hadmit hid hlong) rfl, fun hroom => ⟨fun j hj hbad hfirst => ?_,
    fun hgood => ?_⟩⟩
  · exact hrow (u := s) (takeWrite_bad (s := delivered .write (a :: ws) s) hadmit hid hroom hj hbad hfirst) rfl
  · exact hrow (u := { s with tables := writeResult a ws s })
      (takeWrite_good (s := delivered .write (a :: ws) s) hadmit hid hroom hgood) rfl

end

/-! ### The owners' tests -/

/-- Two regions of rows share one. -/
theorem regionsMeet_iff (a b : Word) : regionsMeet a b = true ↔
    ∃ row, baseOf a ≤ row ∧ row < baseOf a + rowsOf a ∧ baseOf b ≤ row ∧ row < baseOf b + rowsOf b := by
  simp only [regionsMeet, Bool.and_eq_true, decide_eq_true_eq, ne_eq]
  constructor
  · rintro ⟨⟨⟨ha, hb⟩, hab⟩, hba⟩
    exact ⟨max (baseOf a) (baseOf b), by omega, by omega, by omega, by omega⟩
  · rintro ⟨row, h1, h2, h3, h4⟩
    omega

theorem actionOf_unassigned (n : Nat) (h : n < 4) : actionOf n = .unassigned ↔ n = 3 := by
  interval_cases n <;> decide

/-- Settles O11. -/
theorem ownersTestTheirEntries : Obligations.OwnersTestTheirEntries := by
  intro t start n
  refine ⟨fun i => ?_, fun i => ?_, fun i => ?_, fun i => ?_, fun i => ?_, fun i => ?_, fun i => ?_, fun id i hid => ?_⟩
  · simp [badEntry, inputOf, Nat.lt_iff_add_one_le]
  · simp [badEntry, outputOf, Nat.lt_iff_add_one_le]
  · simp only [badEntry, Fin.ofNat_val_eq_self, badLine, Bool.or_eq_true, decide_eq_true_eq, List.any_eq_true,
      List.mem_finRange, true_and, Bool.and_eq_true, regionsMeet_iff]
    rw [or_assoc]
    refine or_congr_right (or_congr_right (exists_congr fun k => ?_))
    exact ⟨fun h => ⟨h.1.1, by tauto, h.1.2⟩, fun h => ⟨⟨h.1, h.2.2⟩, by tauto⟩⟩
  · have haction := actionOf_unassigned (field (t.detectors.get i).w0 5 4) (Nat.mod_lt _ (by decide))
    simp [badEntry, badDetector, detectorOf, bit, haction, or_assoc]
  · simp [badEntry, badGroup, groupOf, or_assoc]
  · have hbad : badEntry t start n 8 i = true ↔ ¬(timingOf t.timing).acceptable = true := by simp [badEntry]
    rw [hbad, acceptable_iff]
    cases hgap : t.timing.w0.getLsbD 19 <;> cases hslow : t.timing.w0.getLsbD 20 <;>
      simp only [Timing.mandatory, Timing.scaled, Timing.rowGapEff, timingOf, bit, hgap, hslow, Bool.false_eq_true,
        if_true, if_false] <;> omega
  · simp only [badEntry, badRing, Bool.or_eq_true, beq_iff_eq, decide_eq_true_eq]
    exact Iff.rfl
  · match id, hid with
    | 0, _ | 1, _ | 2, _ => rfl

end Sys2Proof.Machine
end

section
/-! Words packed of fields: the status record, the reply header and the fault record word (R207, R208, R211). -/

namespace Sys2Proof.Machine

/-! ### Packing -/

/-- The word holds the number, in its low `bits` bits. -/
def Packs (x : Word) (n bits : Nat) : Prop := x.toNat = n ∧ n < 2 ^ bits

theorem placed_toNat {lo width v : Nat} (h : lo + width ≤ 24) (hv : v < 2 ^ width) :
    (placed lo width v).toNat = v * 2 ^ lo := by
  have hlt : v * 2 ^ lo < 2 ^ 24 :=
    calc v * 2 ^ lo < 2 ^ width * 2 ^ lo := Nat.mul_lt_mul_of_pos_right hv (Nat.two_pow_pos _)
      _ = 2 ^ (lo + width) := by rw [Nat.add_comm, Nat.pow_add]
      _ ≤ 2 ^ 24 := Nat.pow_le_pow_right (by decide) h
  rw [placed, BitVec.toNat_ofNat, Nat.mod_eq_of_lt hv, Nat.shiftLeft_eq, Nat.mod_eq_of_lt hlt]

/-- A field above the bits that a word uses adds its value at its place. -/
theorem Packs.placed {x : Word} {n bits lo width v : Nat} (h : Packs x n bits) (hlo : bits ≤ lo) (hwidth : lo + width ≤ 24)
    (hv : v < 2 ^ width) : Packs (x ||| Machine.placed lo width v) (n + 2 ^ lo * v) (lo + width) := by
  obtain ⟨hx, hn⟩ := h
  have hlow : n < 2 ^ lo := hn.trans_le (Nat.pow_le_pow_right (by decide) hlo)
  constructor
  · rw [BitVec.toNat_or, hx, placed_toNat hwidth hv, ← Nat.shiftLeft_eq, Nat.or_comm,
      ← Nat.shiftLeft_add_eq_or_of_lt hlow, Nat.shiftLeft_eq, Nat.add_comm, Nat.mul_comm]
  · calc n + 2 ^ lo * v < 2 ^ lo + 2 ^ lo * v := Nat.add_lt_add_right hlow _
      _ = 2 ^ lo * (v + 1) := by ring
      _ ≤ 2 ^ lo * 2 ^ width := Nat.mul_le_mul_left _ hv
      _ = 2 ^ (lo + width) := (Nat.pow_add _ _ _).symm

theorem flagAt_eq (b : Nat) (v : Bool) : flagAt b v = placed b 1 v.toNat := by
  cases v
  · simp [flagAt, placed]
  · rfl

/-- A flag above the bits that a word uses. -/
theorem Packs.flag {x : Word} {n bits b : Nat} (h : Packs x n bits) (hb : bits ≤ b) (h24 : b < 24) (v : Bool) :
    Packs (x ||| flagAt b v) (n + 2 ^ b * v.toNat) (b + 1) := by
  rw [flagAt_eq]
  exact h.placed hb h24 (Bool.toNat_lt v)

/-- The lowest field of a word. -/
theorem packs_placed {width v : Nat} (hwidth : width ≤ 24) (hv : v < 2 ^ width) : Packs (placed 0 width v) v width := by
  refine ⟨?_, hv⟩
  rw [placed_toNat (by omega) hv, Nat.pow_zero, Nat.mul_one]

theorem or_reverse_five (a b c d e : Word) : a ||| b ||| c ||| d ||| e = e ||| d ||| c ||| b ||| a := by ac_rfl

theorem or_reverse_nine (a b c d e f g h i : Word) : a ||| b ||| c ||| d ||| e ||| f ||| g ||| h ||| i =
    i ||| h ||| g ||| f ||| e ||| d ||| c ||| b ||| a := by ac_rfl

/-! ### The record -/

theorem code_lt_lock (l : LockState) : l.code < 4 := by cases l <;> decide

theorem code_lt_scene (c : SceneState) : c.code < 8 := by cases c <;> decide

theorem code_lt_survey (c : SurveyState) : c.code < 4 := by cases c <;> decide

theorem code_lt_status (c : Status) : c.code < 16 := by cases c <;> decide

theorem code_lt_fault (k : FaultKind) : k.code < 8 := by cases k <;> decide

theorem mul_toNat (n : Nat) (v : Bool) : n * v.toNat = if v = true then n else 0 := by cases v <;> simp

variable (s : State)

theorem statusWord0_toNat (h : s.rrx.period < 1024) : (statusWord0 s).toNat =
    s.rrx.lock.code + 4 * s.scc.scene.code + (if s.scc.active = .b then 32 else 0) + (if s.tld.isOpen then 64 else 0) +
      256 * s.svu.state.code + 1024 * s.rrx.period := by
  have hpack := ((((packs_placed (width := 2) (by decide) (code_lt_lock s.rrx.lock)).placed (lo := 2) (width := 3) (by decide)
    (by decide) (code_lt_scene s.scc.scene)).flag (b := 5) (by decide) (by decide) (s.scc.active == .b)).flag (b := 6)
    (by decide) (by decide) s.tld.isOpen).placed (lo := 8) (width := 2) (by decide) (by decide)
    (code_lt_survey s.svu.state) |>.placed (lo := 10) (width := 10) (by decide) (by decide) h
  refine hpack.1.trans ?_
  simp only [mul_toNat, beq_iff_eq, Nat.reducePow]

theorem faultWord_some {c : Cmu} {f : FaultNote} (h : c.fault = some f) (hcount : c.laterCount < 256)
    (hdetail : f.detail < 16) : (faultWord c).toNat =
      8388608 + 1048576 * f.kind.code + 4096 * c.laterCount + 16 * f.number.toNat + f.detail := by
  have hpack := (((packs_placed (width := 4) (by decide) hdetail).placed (lo := 4) (width := 8) (by decide) (by decide)
    f.number.isLt).placed (lo := 12) (width := 8) (by decide) (by decide) hcount).placed (lo := 20) (width := 3)
    (by decide) (by decide) (code_lt_fault f.kind) |>.placed (lo := 23) (width := 1) (v := 1) (by decide) (by decide)
    (by decide)
  have hword : faultWord c = placed 0 4 f.detail ||| placed 4 8 f.number.toNat ||| placed 12 8 c.laterCount |||
      placed 20 3 f.kind.code ||| placed 23 1 1 := by
    simp only [faultWord, h]
    exact or_reverse_five _ _ _ _ _
  rw [hword, hpack.1]
  omega

theorem faultWord_none {c : Cmu} (h : c.fault = none) (hcount : c.laterCount < 256) :
    (faultWord c).toNat = 4096 * c.laterCount := by
  simp only [faultWord, h]
  rw [placed_toNat (by decide) hcount, Nat.mul_comm]
  rfl

theorem anyOverflow_iff (g : Sgd) : anyOverflow g = true ↔ ∃ i, (g.detectors.get i).flag = true := by
  have hcells := Regs.forall_cells (p := fun d : Detector => d.flag = false) g.detectors
  rw [← not_iff_not]
  simpa [anyOverflow] using hcells

theorem replyHeader_toNat (address : Fin 63) (status : Status) {code : Nat} (h : code < 256) :
    (replyHeader s address status code).toNat =
      code + (if s.cmu.overrun then 256 else 0) + (if s.cmu.fault.isSome then 512 else 0) +
        (if ∃ i, (s.sgd.detectors.get i).flag = true then 1024 else 0) + (if s.cmu.shedNote then 2048 else 0) +
        (if s.scc.scene = .steady then 0 else 4096) + (if s.tld.isOpen then 8192 else 0) + 16384 * status.code +
        262144 * address.val := by
  have hpack := ((((packs_placed (width := 8) (by decide) h).flag (b := 8) (by decide) (by decide) s.cmu.overrun).flag (b := 9)
    (by decide) (by decide) s.cmu.fault.isSome).flag (b := 10) (by decide) (by decide) (anyOverflow s.sgd)).flag (b := 11)
    (by decide) (by decide) s.cmu.shedNote |>.flag (b := 12) (by decide) (by decide) (decide (s.scc.scene ≠ .steady))
    |>.flag (b := 13) (by decide) (by decide) s.tld.isOpen |>.placed (lo := 14) (width := 4) (by decide) (by decide)
    (code_lt_status status) |>.placed (lo := 18) (width := 6) (v := address.val) (by decide) (by decide) (by omega)
  have hword : replyHeader s address status code = placed 0 8 code ||| flagAt 8 s.cmu.overrun |||
      flagAt 9 s.cmu.fault.isSome ||| flagAt 10 (anyOverflow s.sgd) ||| flagAt 11 s.cmu.shedNote |||
      flagAt 12 (decide (s.scc.scene ≠ .steady)) ||| flagAt 13 s.tld.isOpen ||| placed 14 4 status.code |||
      placed 18 6 address.val :=
    or_reverse_nine _ _ _ _ _ _ _ _ _
  rw [hword, hpack.1]
  simp only [mul_toNat, anyOverflow_iff, decide_eq_true_eq, ne_eq, ite_not, Nat.reducePow]

theorem appliedWord_toNat (g : Sgd) (first : Nat) (h : ∀ i, (g.groups.get i).applied < 64) :
    (appliedWord g first).toNat = (g.groups.get (Fin.ofNat 8 (first + 0))).applied +
      64 * (g.groups.get (Fin.ofNat 8 (first + 1))).applied + 4096 * (g.groups.get (Fin.ofNat 8 (first + 2))).applied +
      262144 * (g.groups.get (Fin.ofNat 8 (first + 3))).applied :=
  ((packs_placed (by decide) (h _)).placed (lo := 6) (width := 6) (by decide) (by decide) (h _) |>.placed (lo := 12)
    (width := 6) (by decide) (by decide) (h _) |>.placed (lo := 18) (width := 6) (by decide) (by decide) (h _)).1

theorem getLsbD_flagAt {b i : Nat} (v : Bool) (hi : i < 24) :
    (flagAt b v).getLsbD i = (decide (i = b) && v) := by
  rw [flagAt_eq, placed, BitVec.getLsbD_ofNat]
  cases v
  · simp
  · simp [hi, Nat.one_shiftLeft, Nat.testBit_two_pow, eq_comm]

/-- The mask built up over a run of detectors shows the flags of those. -/
theorem foldl_flagAt_getLsbD (f : Fin 24 → Bool) (l : List (Fin 24)) (m : Word) (i : Fin 24) :
    (l.foldl (fun m j => m ||| flagAt j.val (f j)) m).getLsbD i.val = (m.getLsbD i.val || (decide (i ∈ l) && f i)) := by
  induction l generalizing m with
  | nil => simp
  | cons j l ih =>
    rw [List.foldl_cons, ih, BitVec.getLsbD_or, getLsbD_flagAt _ i.isLt, Bool.or_assoc]
    congr 1
    by_cases hij : i = j
    · subst hij
      simp
    · simp [hij, Fin.val_ne_of_ne hij]

theorem overflowMask_getLsbD (g : Sgd) (i : Fin 24) : (overflowMask g).getLsbD i.val = (g.detectors.get i).flag := by
  rw [overflowMask, foldl_flagAt_getLsbD]
  simp

/-- A word of the record that is one count. -/
theorem placed_count {width v : Nat} (hwidth : width ≤ 24) (hv : v < 2 ^ width) :
    (some (placed 0 width v)).map BitVec.toNat = some v := congrArg some (packs_placed hwidth hv).1

theorem statusRecord_total (i : Fin 24) :
    (statusRecord s)[20 + i.val]? = some (placed 0 16 (s.sgd.detectors.get i).total) := by
  unfold statusRecord
  rw [List.getElem?_append_right (by simp)]
  simp

/-- Settles O8. -/
theorem statusRecordLayout : Obligations.StatusRecordLayout := by
  intro s
  refine ⟨by simp [statusRecord], statusWord0_toNat s, rfl, fun h => placed_count (by decide) h,
    fun h => placed_count (by decide) h, fun hleft hshed => ?_, fun h => placed_count (by decide) h, fun k v hkv hv => ?_,
    fun w hw i => ?_, rfl, fun f hf hcount hdetail => faultWord_some hf hcount hdetail,
    fun hnone hcount => faultWord_none hnone hcount, fun h => ⟨congrArg some (appliedWord_toNat s.sgd 0 h),
    congrArg some (appliedWord_toNat s.sgd 4 h)⟩, fun i h => ?_, fun address status code h =>
    replyHeader_toNat s address status h, rfl, rfl, rfl, rfl, rfl⟩
  · exact congrArg some ((packs_placed (by decide) hleft).placed (lo := 10) (width := 11) (by decide) (by decide) hshed).1
  · have hone : (statusRecord s)[k]? = some (placed 0 16 v) := by
      simp only [List.mem_cons, Prod.mk.injEq, List.not_mem_nil, or_false] at hkv
      rcases hkv with ⟨rfl, rfl⟩ | ⟨rfl, rfl⟩ | ⟨rfl, rfl⟩ | ⟨rfl, rfl⟩ | ⟨rfl, rfl⟩ | ⟨rfl, rfl⟩ | ⟨rfl, rfl⟩ |
        ⟨rfl, rfl⟩ | ⟨rfl, rfl⟩ | ⟨rfl, rfl⟩ | ⟨rfl, rfl⟩ <;> rfl
    rw [hone]
    exact placed_count (by decide) hv
  · have hmask : (statusRecord s)[17]? = some (overflowMask s.sgd) := rfl
    obtain rfl : overflowMask s.sgd = w := Option.some.inj (hmask.symm.trans hw)
    exact overflowMask_getLsbD s.sgd i
  · rw [statusRecord_total]
    exact placed_count (by decide) h

end Sys2Proof.Machine
end

section
/-! The scene commands and the swap, the requests that wait for the window start, the survey commands, and the loader's
opening and closing, judged as rows. -/

namespace Sys2Proof.Machine

variable {s u : State} {args : List Word}

/-! ### Scene commands, by scene state and target -/

theorem takeCancel_armed (h : s.scc.scene = .armed) :
    takeCancel args s = accept { s with scc := { s.scc with scene := .steady, shadowLocked := false } } := by
  simp [takeCancel, h]

theorem takeCancel_fade (h : s.scc.scene = .fadeOut) (ht : s.scc.target = some .swapFadeIn ∨ s.scc.target = some .swapHold) :
    takeCancel args s =
      accept { s with scc := { s.scc with scene := .fadeIn, target := none, shadowLocked := false } } := by
  rcases ht with ht | ht <;> simp [takeCancel, h, ht]

theorem takeCancel_hold (h : s.scc.scene = .fadeOut) (ht : s.scc.target = some .hold) :
    takeCancel args s = refuse .state s := by
  simp [takeCancel, h, ht]

theorem takeCancel_other (h : s.scc.scene = .steady ∨ s.scc.scene = .held ∨ s.scc.scene = .fadeIn) :
    takeCancel args s = refuse .state s := by
  rcases h with h | h | h <;> simp [takeCancel, h]

theorem takeHush_steady (h : s.scc.scene = .steady) : takeHush args s =
    accept { s with scc := { s.scc with scene := .fadeOut, ramp := activeRamp s, target := some .hold } } := by
  simp [takeHush, h]

theorem takeHush_armed (h : s.scc.scene = .armed) : takeHush args s = accept { s with scc := { s.scc with
    scene := .fadeOut, ramp := activeRamp s, target := some .hold, shadowLocked := false } } := by
  simp [takeHush, h]

theorem takeHush_swap (h : s.scc.scene = .fadeOut) (ht : s.scc.target = some .swapFadeIn) :
    takeHush args s = accept { s with scc := { s.scc with target := some .swapHold } } := by
  simp [takeHush, h, ht]

theorem takeHush_hold (h : s.scc.scene = .fadeOut) (ht : s.scc.target = some .swapHold ∨ s.scc.target = some .hold) :
    takeHush args s = accept s := by
  rcases ht with ht | ht <;> simp [takeHush, h, ht]

theorem takeHush_held (h : s.scc.scene = .held) : takeHush args s = accept s := by simp [takeHush, h]

theorem takeHush_fadeIn (h : s.scc.scene = .fadeIn) : takeHush args s =
    accept { s with scc := { s.scc with scene := .fadeOut, target := some .hold } } := by
  simp [takeHush, h]

theorem takeResume_held (h : s.scc.scene = .held) : takeResume args s =
    accept { s with scc := { s.scc with scene := .fadeIn, ramp := 0 } } := by
  simp [takeResume, h]

theorem takeResume_hold (h : s.scc.scene = .fadeOut) (ht : s.scc.target = some .hold) : takeResume args s =
    accept { s with scc := { s.scc with scene := .fadeIn, target := none } } := by
  simp [takeResume, h, ht]

theorem takeResume_swapHold (h : s.scc.scene = .fadeOut) (ht : s.scc.target = some .swapHold) : takeResume args s =
    accept { s with scc := { s.scc with target := some .swapFadeIn } } := by
  simp [takeResume, h, ht]

theorem takeResume_swapFadeIn (h : s.scc.scene = .fadeOut) (ht : s.scc.target = some .swapFadeIn) :
    takeResume args s = accept s := by
  simp [takeResume, h, ht]

theorem takeResume_other (h : s.scc.scene = .steady ∨ s.scc.scene = .armed ∨ s.scc.scene = .fadeIn) :
    takeResume args s = accept s := by
  rcases h with h | h | h <;> simp [takeResume, h]

/-- Settles O18. -/
theorem sceneCommandsFollowTheirTables : Obligations.SceneCommandsFollowTheirTables := by
  intro via s h
  have hrow {c : Command} (hb : c.mayBroadcast = true) (ha : c.accepts [] = true)
      (hlast : ∀ (status : Status) (t : State), c.afterReply status t = t) {status : Status} {scc : Scc}
      (hrun : c.run [] (delivered c [] s) = ⟨delivered c [] { s with scc := scc }, status, []⟩) :
      exec (c.row via []) s = .next (answered via c [] status [] { s with scc := scc }) := by
    rw [exec_row_answered h (by decide) (fun _ => hb) ha hrun rfl, hlast]
  have hcancel {status : Status} {scc : Scc} (hrun : takeCancel [] (delivered .cancel [] s) =
      ⟨delivered .cancel [] { s with scc := scc }, status, []⟩) :=
    hrow (c := .cancel) rfl rfl (fun _ _ => rfl) hrun
  have hhush {status : Status} {scc : Scc} (hrun : takeHush [] (delivered .hush [] s) =
      ⟨delivered .hush [] { s with scc := scc }, status, []⟩) :=
    hrow (c := .hush) rfl rfl (fun _ _ => rfl) hrun
  have hresume {status : Status} {scc : Scc} (hrun : takeResume [] (delivered .resume [] s) =
      ⟨delivered .resume [] { s with scc := scc }, status, []⟩) :=
    hrow (c := .resume) rfl rfl (fun _ _ => rfl) hrun
  exact ⟨fun hs => hcancel (takeCancel_armed hs), fun hs ht => hcancel (takeCancel_fade hs ht),
    fun hs ht => hcancel (takeCancel_hold hs ht), fun hs => hcancel (takeCancel_other hs),
    fun hs => hhush (takeHush_steady hs), fun hs => hhush (takeHush_armed hs), fun hs ht => hhush (takeHush_swap hs ht),
    fun hs ht => hhush (takeHush_hold hs ht), fun hs => hhush (takeHush_held hs), fun hs => hhush (takeHush_fadeIn hs),
    fun hs => hresume (takeResume_held hs), fun hs ht => hresume (takeResume_hold hs ht),
    fun hs ht => hresume (takeResume_swapHold hs ht), fun hs ht => hresume (takeResume_swapFadeIn hs ht),
    fun hs => hresume (takeResume_other hs)⟩

/-! ### COMMIT -/

section
variable {w : Word}

theorem takeCommit_loading (h : s.tld.isOpen = true) : takeCommit args s = refuse .state s := by simp [takeCommit, h]

variable (hopen : s.tld.isOpen = false)
include hopen

theorem takeCommit_busy (h : s.scc.scene = .armed ∨ s.scc.scene = .fadeOut ∨ s.scc.scene = .fadeIn ∨
    s.scc.swapDue = true) : takeCommit args s = refuse .busy s := by
  cases hdue : s.scc.swapDue with
  | true => simp [takeCommit, hopen, hdue]
  | false =>
    rcases h with h | h | h | h
    · simp [takeCommit, hopen, hdue, h]
    · simp [takeCommit, hopen, hdue, h]
    · simp [takeCommit, hopen, hdue, h]
    · simp [hdue] at h

variable (hdue : s.scc.swapDue = false)
include hdue

theorem takeCommit_range (h : s.scc.scene = .steady ∨ s.scc.scene = .held) (hmode : 2 ≤ field w 1 0) :
    takeCommit [w] s = refuse .range s := by
  rcases h with h | h
  · unfold takeCommit
    have hw : field (argAt [w] 0) 1 0 = field w 1 0 := rfl
    simp only [hopen, hdue, h, hw, Bool.false_eq_true, if_false]
    split
    · next e => omega
    · next e => omega
    · rfl
  · simp [takeCommit, hopen, hdue, h, argAt, hmode]

theorem takeCommit_now (h : s.scc.scene = .steady) (hmode : field w 1 0 = 0) : takeCommit [w] s =
    accept { s with scc := { s.scc with
      scene := .fadeOut, ramp := activeRamp s, target := some .swapFadeIn, shadowLocked := true } } := by
  simp [takeCommit, hopen, hdue, h, argAt, hmode]

theorem takeCommit_atMark (h : s.scc.scene = .steady) (hmode : field w 1 0 = 1) : takeCommit [w] s =
    accept { s with scc := { s.scc with scene := .armed, shadowLocked := true } } := by
  simp [takeCommit, hopen, hdue, h, argAt, hmode]

theorem takeCommit_held (h : s.scc.scene = .held) (hmode : field w 1 0 ≤ 1) : takeCommit [w] s =
    accept { s with scc := { s.scc with shadowLocked := true, swapDue := true } } := by
  simp [takeCommit, hopen, hdue, h, argAt, Nat.lt_succ_of_le hmode]

end

theorem answered_frame (via : Addressee) (c : Command) (args : List Word) (status : Status) (data : List Word) (t : State) :
    ∃ k, answered via c args status data t = { t with cmu := k } := by
  unfold answered
  split <;> exact ⟨_, rfl⟩

/-- An answer meets a due swap as the state it answers from does. -/
theorem settleSwap_answered_stays (via : Addressee) (c : Command) (args : List Word) (status : Status)
    (data : List Word) (h : u.scc.swapDue = false ∨ u.inWindow = true) :
    settleSwap (answered via c args status data u) = answered via c args status data u := by
  obtain ⟨k, e⟩ := answered_frame via c args status data u
  rw [e]
  unfold settleSwap
  rcases h with h | h <;> simp [h]

/-- Settles O16. -/
theorem commitStartsAScene : Obligations.CommitStartsAScene := by
  intro via w s h
  have hrow {status : Status} {u : State} (hrun : takeCommit [w] (delivered .commit [w] s) =
      ⟨delivered .commit [w] u, status, []⟩) (hn : u.cmu.nodeAddress = s.cmu.nodeAddress) :
      exec (.commit via [w]) s = .next (Command.commit.afterReply status (answered via .commit [w] status [] u)) :=
    exec_row_answered (c := .commit) h (by simp) (fun _ => rfl) rfl hrun hn
  have haccepted {u : State} (hrun : takeCommit [w] (delivered .commit [w] s) = accept (delivered .commit [w] u))
      (hn : u.cmu.nodeAddress = s.cmu.nodeAddress) (hstay : u.scc.swapDue = false ∨ u.inWindow = true) :
      exec (.commit via [w]) s = .next (answered via .commit [w] .ok [] u) :=
    (hrow hrun hn).trans (congrArg _ (settleSwap_answered_stays via .commit [w] .ok [] hstay))
  refine ⟨fun hopen => hrow (u := s) (takeCommit_loading hopen) rfl,
    fun hopen hbusy => hrow (u := s) (takeCommit_busy hopen hbusy) rfl,
    fun hopen hdue hscene hmode => hrow (u := s) (takeCommit_range hopen hdue hscene hmode) rfl,
    fun hopen hdue hscene hmode => haccepted (takeCommit_now hopen hdue hscene hmode) rfl (.inl hdue),
    fun hopen hdue hscene hmode => haccepted (takeCommit_atMark hopen hdue hscene hmode) rfl (.inl hdue),
    fun hopen hdue hscene hmode => ?_⟩
  have hrun : takeCommit [w] (delivered .commit [w] s) = accept (delivered .commit [w] { s with
      scc := { s.scc with shadowLocked := true, swapDue := true } }) :=
    takeCommit_held (s := delivered .commit [w] s) hopen hdue hscene hmode
  refine ⟨fun hw => haccepted hrun rfl (.inr hw), fun hw => (hrow hrun rfl).trans (congrArg _ ?_)⟩
  obtain ⟨k, e⟩ := answered_frame via .commit [w] .ok [] { s with scc := { s.scc with
    shadowLocked := true, swapDue := true } }
  rw [e]
  simp [Command.afterReply, settleSwap, hw]

/-! ### The swap -/

/-- A trigger that a survey in force waits for becomes pending (R198). -/
theorem surveyTrigger_set {k : Trigger} {c : SurveyConfig} (hstate : s.svu.state ≠ .idle)
    (hstart : s.svu.startPending = none) (hconfig : s.svu.config = some c) (htrigger : c.trigger = k) :
    surveyTrigger k s = { s with svu := { s.svu with triggerPending := true } } := by
  unfold surveyTrigger
  cases hs : s.svu.state with
  | idle => exact absurd hs hstate
  | waiting => simp [hstart, hconfig, htrigger]
  | measuring => simp [hstart, hconfig, htrigger]

/-- The state in which the SWAP trigger falls on the survey. -/
def beforeTrigger (s : State) : State := { s with
  scc := s.scc.swapped
  tpe := s.tpe.reload (s.tables.bank s.scc.active.other)
  lines := if tailClear (s.tables.bank s.scc.active.other).header then clearBusLines s.lines else s.lines }

theorem swap_eq (s : State) : swap s = surveyTrigger .swap (beforeTrigger s) := rfl

/-- Settles O17. -/
theorem swapExchangesTheBanks : Obligations.SwapExchangesTheBanks := by
  intro s
  obtain ⟨pending, e⟩ := swap_frame s
  refine ⟨by rw [e]; rfl, by rw [e]; rfl, fun i => ?_, fun i => ?_, fun i => ?_, by rw [e], ?_, ?_⟩
  · rw [e]
    exact Regs.get_map _ _ i
  · rw [e]
    exact Regs.get_fill _ i
  · rw [e]
    dsimp only
    by_cases hclear : tailClear (s.tables.bank s.scc.active.other).header = true
    · rw [if_pos hclear, clearBusLines_get]
      by_cases hbus : i.val < 24
      · rw [if_pos hbus, if_neg (by omega)]
      · rw [if_neg hbus, if_pos ⟨by omega, hclear⟩]
        rfl
    · rw [if_neg hclear, if_neg (fun h => hclear h.2)]
  · rintro ⟨c, hstate, hstart, hconfig, htrigger⟩
    rw [swap_eq, surveyTrigger_set (s := beforeTrigger s) hstate hstart hconfig htrigger]
  · intro hno
    rw [swap_eq]
    rcases surveyTrigger_cases .swap (beforeTrigger s) with hsame | ⟨c, hstate, hstart, hconfig, htrigger, _⟩
    · rw [hsame]
      rfl
    · exact absurd ⟨c, hstate, hstart, hconfig, htrigger⟩ hno

end Sys2Proof.Machine
end

section
/-! The requests that wait for the window start, the survey commands, and the loader's opening and closing. -/

namespace Sys2Proof.Machine

variable {s u : State} {args : List Word}

/-- Settles O19. -/
theorem requestsWaitForTheWindowStart : Obligations.RequestsWaitForTheWindowStart := by
  intro via s h
  refine ⟨fun a b => ?_, exec_row_answered (c := .restart) (u := { s with cmu := { s.cmu with restartPending := true } }) h
    (by decide) (fun _ => rfl) rfl rfl rfl⟩
  refine ⟨{ s.sgd with
      clearDetectors := s.sgd.clearDetectors ||| a
      clearGroups := s.sgd.clearGroups ||| BitVec.ofNat 8 (field b 7 0) },
    exec_row_answered (c := .guardClear) h (by simp) (fun _ => rfl) rfl rfl rfl, rfl,
    fun i _ => BitVec.getLsbD_or, fun g hg => ?_⟩
  have hbit : (BitVec.ofNat 8 (field b 7 0)).getLsbD g = b.getLsbD g := by
    have hmod : field b 7 0 = b.toNat % 2 ^ 8 := rfl
    rw [BitVec.getLsbD_ofNat, hmod, Nat.testBit_mod_two_pow, BitVec.testBit_toNat]
    simp [hg]
  rw [BitVec.getLsbD_or, hbit]

/-! ### The survey commands -/

theorem argMode_eq (w : Word) :
    argMode w = [SurveyMode.levelSingle, .levelRepeat, .levelSweep, .levelRepeatSweep, .decay][field w 2 0]? := by
  unfold argMode
  generalize field w 2 0 = n
  match n with
  | 0 | 1 | 2 | 3 | 4 => rfl
  | n + 5 => exact (List.getElem?_eq_none (by simp)).symm

theorem argTrigger_eq (w : Word) : argTrigger w = [Trigger.now, .mark, .swap][field w 5 4]? := by
  unfold argTrigger
  generalize field w 5 4 = n
  match n with
  | 0 | 1 | 2 => rfl
  | n + 3 => exact (List.getElem?_eq_none (by simp)).symm

theorem surveyConfigOf_fields {a b : Word} {c : SurveyConfig} (h : surveyConfigOf [a, b] = some c) :
    c.start = field b 6 0 ∧ c.group = field b 20 16 ∧ c.exponent = field a 12 8 ∧ argMode a = some c.mode ∧
      argTrigger a = some c.trigger := by
  unfold surveyConfigOf at h
  split at h
  · next mode trigger hmode htrigger =>
    dsimp only at h
    split at h
    · cases h
    · cases h
      exact ⟨rfl, rfl, rfl, hmode, htrigger⟩
  · cases h
  · cases h

/-- R194 accepts a configuration of fields in their ranges. -/
theorem surveyConfigOf_isSome {a b : Word} {mode : SurveyMode} {trigger : Trigger} (hmode : argMode a = some mode)
    (htrigger : argTrigger a = some trigger) : (surveyConfigOf [a, b]).isSome = true ↔
      ¬(mode = .decay ∧ trigger = .now) ∧ 6 ≤ field a 12 8 ∧ field a 12 8 ≤ 18 ∧ groupFits mode (field b 20 16) = true ∧
        field b 6 0 ≤ 87 ∧ field b 6 0 + field b 20 16 - 1 ≤ 87 := by
  have ha : argAt [a, b] 0 = a := rfl
  have hb : argAt [a, b] 1 = b := rfl
  unfold surveyConfigOf
  simp only [ha, hb, hmode, htrigger]
  split
  · next hbad =>
    simp only [Option.isSome_none, Bool.false_eq_true, false_iff]
    rintro ⟨hnow, hlow, hhigh, hfits, hstart, hend⟩
    rcases hbad with h | h | h | h | h | h
    · exact hnow h
    · omega
    · omega
    · exact h hfits
    · omega
    · omega
  · next hgood =>
    simp only [not_or, not_lt, not_not] at hgood
    simpa using hgood

/-- The mode of a code, with its groups. -/
theorem argMode_some {w : Word} (h : field w 2 0 ≤ 4) : ∃ mode, argMode w = some mode ∧ (mode = .decay ↔ field w 2 0 = 4) ∧
    ∀ g, groupFits mode g = true ↔ ((field w 2 0 = 0 ∨ field w 2 0 = 1 ∨ field w 2 0 = 4) → g = 1) ∧
      ((field w 2 0 = 2 ∨ field w 2 0 = 3) → g = 2 ∨ g = 4 ∨ g = 8 ∨ g = 16) := by
  rw [argMode_eq]
  generalize field w 2 0 = n at h ⊢
  match n, h with
  | 0, _ | 1, _ | 2, _ | 3, _ | 4, _ => exact ⟨_, rfl, by decide, by simp [groupFits, or_assoc]⟩

theorem argTrigger_some {w : Word} (h : field w 5 4 ≤ 2) :
    ∃ trigger, argTrigger w = some trigger ∧ (trigger = .now ↔ field w 5 4 = 0) := by
  rw [argTrigger_eq]
  generalize field w 5 4 = n at h ⊢
  match n, h with
  | 0, _ | 1, _ | 2, _ => exact ⟨_, rfl, by decide⟩

theorem surveyConfigOf_mode {a b : Word} (h : 5 ≤ field a 2 0) : surveyConfigOf [a, b] = none := by
  have ha : argMode (argAt [a, b] 0) = none := (argMode_eq a).trans (List.getElem?_eq_none h)
  simp [surveyConfigOf, ha]

theorem surveyConfigOf_trigger {a b : Word} (h : 3 ≤ field a 5 4) : surveyConfigOf [a, b] = none := by
  have ha : argTrigger (argAt [a, b] 0) = none := (argTrigger_eq a).trans (List.getElem?_eq_none h)
  unfold surveyConfigOf
  rw [ha]
  split
  · next e => cases e
  · rfl
  · rfl

theorem surveyConfigOf_isSome_iff (a b : Word) : (surveyConfigOf [a, b]).isSome = true ↔
    field a 2 0 ≤ 4 ∧ field a 5 4 ≤ 2 ∧ ¬(field a 2 0 = 4 ∧ field a 5 4 = 0) ∧ 6 ≤ field a 12 8 ∧ field a 12 8 ≤ 18 ∧
      ((field a 2 0 = 0 ∨ field a 2 0 = 1 ∨ field a 2 0 = 4) → field b 20 16 = 1) ∧
      ((field a 2 0 = 2 ∨ field a 2 0 = 3) →
        field b 20 16 = 2 ∨ field b 20 16 = 4 ∨ field b 20 16 = 8 ∨ field b 20 16 = 16) ∧
      field b 6 0 + field b 20 16 ≤ 88 := by
  by_cases hm : field a 2 0 ≤ 4
  · by_cases ht : field a 5 4 ≤ 2
    · obtain ⟨mode, hmode, hdecay, hfits⟩ := argMode_some hm
      obtain ⟨trigger, htrigger, hnow⟩ := argTrigger_some ht
      rw [surveyConfigOf_isSome hmode htrigger, hdecay, hnow, hfits]
      omega
    · simp [surveyConfigOf_trigger (not_le.1 ht), ht]
  · simp [surveyConfigOf_mode (not_le.1 hm), hm]

/-- Settles O20. -/
theorem surveyCommandsSetTheSurvey : Obligations.SurveyCommandsSetTheSurvey := by
  refine ⟨fun via a b s h => ⟨fun hnone => ?_, fun c hc => ?_, surveyConfigOf_isSome_iff a b⟩, fun s => ⟨fun h => ?_, fun h => ?_⟩⟩
  · have hrun : takeSurveyStart [a, b] (delivered .surveyStart [a, b] s) =
        refuse .range (delivered .surveyStart [a, b] s) := by simp [takeSurveyStart, hnone]
    exact exec_row_answered (c := .surveyStart) (u := s) h (by simp) (fun _ => rfl) rfl hrun rfl
  · obtain ⟨hstart, hgroup, hexponent, hmode, htrigger⟩ := surveyConfigOf_fields hc
    have hrun : takeSurveyStart [a, b] (delivered .surveyStart [a, b] s) =
        accept (delivered .surveyStart [a, b] { s with svu := { s.svu.emptied with
          state := .waiting, config := none, startPending := some c, triggerPending := false } }) := by
      simp only [takeSurveyStart, hc]
      rfl
    refine ⟨exec_row_answered (c := .surveyStart) h (by simp) (fun _ => rfl) rfl hrun rfl, hstart, hgroup, hexponent,
      ?_, ?_⟩
    · rw [← argMode_eq, hmode]
    · rw [← argTrigger_eq, htrigger]
  · exact exec_row_answered (c := .surveyStop) (u := { s with svu := { s.svu.emptied with
      state := .idle, config := none, startPending := none, triggerPending := false } }) h (by decide) (by simp) rfl rfl rfl
  · exact exec_row_discarded (c := .surveyStop) (args := []) h (by decide) rfl

/-! ### LOAD-OPEN and LOAD-CLOSE -/

theorem bankTableOf_eq (id : Nat) : bankTableOf id = [BankTable.header, .taps, .mods][id]? := by
  match id with
  | 0 | 1 | 2 => rfl
  | n + 3 => exact (List.getElem?_eq_none (by simp)).symm

theorem argDirection_eq (w : Word) : argDirection w = [Direction.ascending, .descending, .fill][field w 12 11]? := by
  unfold argDirection
  generalize field w 12 11 = n
  match n with
  | 0 | 1 | 2 => rfl
  | n + 3 => exact (List.getElem?_eq_none (by simp)).symm

theorem runLeaves_iff (direction : Direction) (start count entries : Nat) : runLeaves direction start count entries = true ↔
    (direction ≠ .descending ∧ entries < start + count) ∨
      (direction = .descending ∧ (entries ≤ start ∨ start + 1 < count)) := by
  cases direction <;> simp [runLeaves]

section
variable {a b : Word}

theorem takeLoadOpen_state (h : s.tld.isOpen = true ∨ argShadow a = false) : takeLoadOpen [a, b] s = refuse .state s := by
  have ha : argAt [a, b] 0 = a := rfl
  unfold takeLoadOpen
  rcases h with h | h
  · simp [h]
  · simp [ha, h]

variable (hopen : s.tld.isOpen = false) (hshadow : argShadow a = true)
include hopen hshadow

theorem takeLoadOpen_busy (h : s.scc.shadowLocked = true) : takeLoadOpen [a, b] s = refuse .busy s := by
  have ha : argAt [a, b] 0 = a := rfl
  simp [takeLoadOpen, hopen, hshadow, h, ha]

variable (hlock : s.scc.shadowLocked = false)
include hlock

theorem takeLoadOpen_range (h : 3 ≤ argTable a ∨ argDirection b = none ∨ argTimeout b = 0 ∨ argCount b = 0 ∨
    1024 < argCount b) : takeLoadOpen [a, b] s = refuse .range s := by
  have ha : argAt [a, b] 0 = a := rfl
  have hb : argAt [a, b] 1 = b := rfl
  unfold takeLoadOpen
  simp only [ha, hb, hopen, hshadow, hlock, Bool.false_eq_true, if_false, not_true_eq_false]
  split
  · next table direction htable hdirection =>
    rw [if_pos]
    rcases h with h | h | h | h | h
    · rw [bankTableOf_eq, List.getElem?_eq_none h] at htable
      cases htable
    · rw [hdirection] at h
      cases h
    · exact .inl h
    · exact .inr (.inl h)
    · exact .inr (.inr (.inl h))
  · rfl
  · rfl

variable {table : BankTable} {direction : Direction} (htable : bankTableOf (argTable a) = some table)
  (hdirection : argDirection b = some direction) (htimeout : 1 ≤ argTimeout b) (hcount : 1 ≤ argCount b)
  (hmax : argCount b ≤ 1024)
include htable hdirection htimeout hcount hmax

/-- A load whose fields are in range is judged by its run. -/
theorem takeLoadOpen_run : takeLoadOpen [a, b] s =
    if runLeaves direction (argStart a) (argCount b) table.entries then refuse .range s
    else accept { s with tld :=
      { isOpen := true, bank := s.scc.active.other, table := table, next := argStart a, remaining := argCount b - 1
        direction := direction, partialWords := [], timeout := argTimeout b, idle := some 0 } } := by
  have ha : argAt [a, b] 0 = a := rfl
  have hb : argAt [a, b] 1 = b := rfl
  have hfields : ¬argTimeout b = 0 ∧ ¬argCount b = 0 ∧ ¬1024 < argCount b := by omega
  unfold takeLoadOpen
  simp only [ha, hb, hopen, hshadow, hlock, htable, hdirection, tableEntries_of_bankTable htable, hfields, Option.getD_some,
    Bool.false_eq_true, if_false, not_true_eq_false, false_or]
  rfl

end

/-- Settles O13. -/
theorem loadOpenOpensTheShadowBank : Obligations.LoadOpenOpensTheShadowBank := by
  intro a b s h
  have hrow {status : Status} {u : State} (hrun : takeLoadOpen [a, b] (delivered .loadOpen [a, b] s) =
      ⟨delivered .loadOpen [a, b] u, status, []⟩) (hn : u.cmu.nodeAddress = s.cmu.nodeAddress) :
      exec (.loadOpen .addressed [a, b]) s = .next (answered .addressed .loadOpen [a, b] status [] u) :=
    exec_row_answered (c := .loadOpen) h (by simp) (by simp) rfl hrun hn
  refine ⟨⟨rfl, rfl, rfl, rfl, rfl, bankTableOf_eq _, argDirection_eq b, rfl⟩,
    fun hbad => hrow (u := s) (takeLoadOpen_state hbad) rfl,
    fun hopen hshadow hlock => hrow (u := s) (takeLoadOpen_busy hopen hshadow hlock) rfl,
    fun hopen hshadow hlock => ⟨fun hbad => hrow (u := s) (takeLoadOpen_range hopen hshadow hlock hbad) rfl,
      fun table direction htable hdirection htimeout hcount hmax => ?_⟩⟩
  have hrun := takeLoadOpen_run (s := delivered .loadOpen [a, b] s) hopen hshadow hlock htable hdirection htimeout hcount hmax
  have hiff := runLeaves_iff direction (argStart a) (argCount b) table.entries
  refine ⟨fun hleaves => hrow (u := s) (hrun.trans (if_pos (hiff.2 hleaves))) rfl,
    fun hstays => hrow (u := { s with tld := _ }) (hrun.trans (if_neg fun hleaves => ?_)) rfl⟩
  rcases hiff.1 hleaves with ⟨hne, hlt⟩ | ⟨he, hor⟩ <;> rcases hstays with ⟨hne', hle⟩ | ⟨he', hlt', hle⟩
  · omega
  · exact hne he'
  · exact hne' he
  · omega

/-- Settles O15. -/
theorem loadCloseClosesTheLoader : Obligations.LoadCloseClosesTheLoader := by
  intro s h hinv hremaining
  obtain ⟨hclosed, hopen⟩ := hinv
  refine ⟨loadCloseWord s.tld, exec_row_answered (c := .loadClose) (u := { s with tld := { s.tld with
    isOpen := false, remaining := 0, partialWords := [], idle := none } }) h (by decide) (by simp) rfl ?_ rfl, ?_⟩
  · show takeLoadClose [] (delivered .loadClose [] s) = _
    cases hs : s.tld.isOpen with
    | true => simp [takeLoadClose, delivered, hs, Tld.closed]
    | false =>
      obtain ⟨hpartial, hzero, hidle⟩ := hclosed hs
      have hsame : s.tld = { s.tld with isOpen := false, remaining := 0, partialWords := [], idle := none } := by
        rw [← hs, ← hpartial, ← hzero, ← hidle]
      rw [takeLoadClose]
      simp only [delivered, hs, Bool.false_eq_true, if_false]
      rw [← hsame]
  · unfold loadCloseWord
    cases hs : s.tld.isOpen with
    | true =>
      obtain ⟨hpartial, _⟩ := hopen hs
      have hlen : s.tld.partialWords.length < 2 ^ 6 := by omega
      exact ((packs_placed (by decide) hlen).placed (lo := 6) (width := 10) (by decide) (by decide) hremaining
        |>.flag (b := 16) (by decide) (by decide) true).1
    | false => rfl

end Sys2Proof.Machine
end

section
/-! LOAD-DATA (R187, R188): the words of a message are taken one by one up to the one that completes the load. -/

namespace Sys2Proof.Machine

variable {s : State} {args : List Word}

/-! ### The reply data word -/

theorem placed_mod (lo width v : Nat) : placed lo width v = placed lo width (v % 2 ^ width) := by
  simp [placed]

theorem loadDataWord_toNat (taken remaining : Nat) (completed : Bool) : (loadDataWord taken remaining completed).toNat =
    taken % 64 + 64 * (remaining % 1024) + 65536 * completed.toNat := by
  unfold loadDataWord
  rw [placed_mod 0 6, placed_mod 6 10]
  exact ((packs_placed (width := 6) (by decide) (Nat.mod_lt _ (by decide))).placed (lo := 6) (width := 10) (by decide)
    (by decide) (Nat.mod_lt _ (by decide)) |>.flag (b := 16) (by decide) (by decide) completed).1

theorem loadDataWord_taken {taken : Nat} (h : taken < 64) (remaining : Nat) (completed : Bool) :
    field (loadDataWord taken remaining completed) 5 0 = taken := by
  rw [field, loadDataWord_toNat, Nat.shiftRight_zero]
  omega

theorem loadDataWord_remaining (taken : Nat) {remaining : Nat} (h : remaining < 1024) (completed : Bool) :
    field (loadDataWord taken remaining completed) 15 6 = remaining := by
  rw [field, loadDataWord_toNat, Nat.shiftRight_eq_div_pow]
  have := Bool.toNat_lt completed
  omega

theorem loadDataWord_completed (taken remaining : Nat) (completed : Bool) :
    bit (loadDataWord taken remaining completed) 16 = completed := by
  unfold bit
  rw [← BitVec.testBit_toNat, loadDataWord_toNat, Nat.testBit_eq_decide_div_mod_eq]
  cases completed <;> simp <;> omega

/-! ### One word, and a run of words -/

theorem completeEntry_withCmu (e : Triple) (s : State) (k : Cmu) :
    completeEntry e { s with cmu := k } = { completeEntry e s with cmu := k } := by
  unfold completeEntry
  dsimp only
  split <;> rfl

theorem loadWord_withCmu (s : State) (n : Nat) (w : Word) (k : Cmu) : loadWord ({ s with cmu := k }, n) w =
    ({ (loadWord (s, n) w).1 with cmu := k }, (loadWord (s, n) w).2) := by
  unfold loadWord
  dsimp only
  split
  · split
    · rfl
    · rw [completeEntry_withCmu]
  · rfl

/-- The words of a load do not meet the Command Unit. -/
theorem loadWords_withCmu (ws : List Word) (r : State × Nat) (k : Cmu) :
    ws.foldl loadWord ({ r.1 with cmu := k }, r.2) =
      ({ (ws.foldl loadWord r).1 with cmu := k }, (ws.foldl loadWord r).2) := by
  induction ws generalizing r with
  | nil => rfl
  | cons w ws ih => rw [List.foldl_cons, loadWord_withCmu r.1 r.2 w k, ih (loadWord r w), List.foldl_cons]

/-- The words of a message taken by the loader, from its idle timer's restart on. -/
def takeWords (args : List Word) (s : State) : State × Nat :=
  args.foldl loadWord ({ s with tld := { s.tld with idle := some 0 } }, 0)

theorem takeWords_frame (args : List Word) (s : State) : ∃ a b tld,
    (takeWords args s).1 = { s with tables := s.tables.withBanks a b, tld := tld } := by
  obtain ⟨a, b, tld, n, e⟩ := loadWords_frame args ({ s with tld := { s.tld with idle := some 0 } }, 0)
  exact ⟨a, b, tld, congrArg Prod.fst e⟩

theorem takeWords_eq (args : List Word) (s : State) :
    { s with tables := (takeWords args s).1.tables, tld := (takeWords args s).1.tld } = (takeWords args s).1 := by
  obtain ⟨_, _, _, e⟩ := takeWords_frame args s
  rw [e]

theorem exec_loadData (h : Ready .addressed s) (hopen : s.tld.isOpen = true) (hlow : 1 ≤ args.length)
    (hhigh : args.length ≤ 62) : exec (.loadData .addressed args) s = .next (answered .addressed .loadData args .ok
      [loadDataWord (takeWords args s).2 (takeWords args s).1.tld.remaining (!(takeWords args s).1.tld.isOpen)]
      { s with tables := (takeWords args s).1.tables, tld := (takeWords args s).1.tld }) := by
  obtain ⟨a, b, tld, e⟩ := takeWords_frame args s
  refine exec_row_answered (c := .loadData) h hhigh (by simp) (by simp [Command.accepts, hlow, hhigh]) ?_ rfl
  have hwords := loadWords_withCmu args ({ s with tld := { s.tld with idle := some 0 } }, 0)
    (delivered .loadData args s).cmu
  show takeLoadData args (delivered .loadData args s) = _
  rw [takeLoadData, if_pos (show (delivered .loadData args s).tld.isOpen = true from hopen)]
  have hfold : args.foldl loadWord ({ delivered .loadData args s with
      tld := { (delivered .loadData args s).tld with idle := some 0 } }, 0) =
      ({ (takeWords args s).1 with cmu := (delivered .loadData args s).cmu }, (takeWords args s).2) := hwords
  dsimp only
  rw [hfold, e]
  rfl

theorem exec_loadData_closed (h : Ready .addressed s) (hclosed : s.tld.isOpen = false) (hlow : 1 ≤ args.length)
    (hhigh : args.length ≤ 62) :
    exec (.loadData .addressed args) s = .next (answered .addressed .loadData args .state [] s) := by
  refine exec_row_answered (c := .loadData) h hhigh (by simp) (by simp [Command.accepts, hlow, hhigh]) ?_ rfl
  show takeLoadData args (delivered .loadData args s) = _
  rw [takeLoadData, if_neg (by simp [delivered, hclosed])]
  rfl

/-! ### How far a run of words goes -/

/-- The words a load still takes (R187, R188). -/
def room (l : Tld) : Nat := (if l.direction = .fill then 3 else 3 * (l.remaining + 1)) - l.partialWords.length

theorem loadWord_closed {r : State × Nat} (h : r.1.tld.isOpen = false) (w : Word) : loadWord r w = r := by
  simp [loadWord, h]

theorem loadWord_waits {n : Nat} {w : Word} (hopen : s.tld.isOpen = true)
    (h : (s.tld.partialWords ++ [w]).length < 3) : loadWord (s, n) w =
      ({ s with tld := { s.tld with partialWords := s.tld.partialWords ++ [w] } }, n + 1) := by
  simp only [loadWord, hopen, if_true, if_pos h]

theorem loadWord_completes {n : Nat} {w : Word} (hopen : s.tld.isOpen = true)
    (h : ¬(s.tld.partialWords ++ [w]).length < 3) : loadWord (s, n) w =
      (completeEntry (tripleOf (s.tld.partialWords ++ [w])) s, n + 1) := by
  simp only [loadWord, hopen, if_true, if_neg h]

theorem loadWord_count (hopen : s.tld.isOpen = true) (n : Nat) (w : Word) : (loadWord (s, n) w).2 = n + 1 := by
  by_cases h : (s.tld.partialWords ++ [w]).length < 3
  · rw [loadWord_waits hopen h]
  · rw [loadWord_completes hopen h]

theorem loadWords_closed {r : State × Nat} (h : r.1.tld.isOpen = false) (ws : List Word) :
    ws.foldl loadWord r = r := by
  induction ws with
  | nil => rfl
  | cons w ws ih => rw [List.foldl_cons, loadWord_closed h, ih]

/-- What a complete entry leaves of an OPEN load: it is over at R = 0 and by FILL, and goes on elsewhere. -/
theorem completeEntry_tld (e : Triple) (s : State) : (completeEntry e s).tld =
    if s.tld.direction = .fill ∨ s.tld.remaining = 0 then s.tld.closed
    else { s.tld with
      remaining := s.tld.remaining - 1, partialWords := []
      next := if s.tld.direction = .ascending then s.tld.next + 1 else s.tld.next - 1 } := by
  unfold completeEntry
  dsimp only
  split <;> next hdir => simp [hdir]

/-- One word of an OPEN load: the last for which there is room completes it, and every other leaves it OPEN. -/
theorem loadWord_room (hopen : s.tld.isOpen = true) (hpartial : s.tld.partialWords.length < 3) (n : Nat) (w : Word) :
    (room s.tld = 1 ∧ (loadWord (s, n) w).1.tld.isOpen = false) ∨
    (1 < room s.tld ∧ (loadWord (s, n) w).1.tld.isOpen = true ∧
      (loadWord (s, n) w).1.tld.partialWords.length < 3 ∧
      room (loadWord (s, n) w).1.tld = room s.tld - 1 ∧ (loadWord (s, n) w).1.tld.idle = s.tld.idle) := by
  by_cases h : (s.tld.partialWords ++ [w]).length < 3
  · right
    rw [loadWord_waits hopen h]
    rw [List.length_append, List.length_singleton] at h
    refine ⟨?_, hopen, by simpa using h, ?_, rfl⟩
    · unfold room
      split <;> omega
    · simp [room]
      omega
  · rw [loadWord_completes hopen h, completeEntry_tld]
    have htwo : s.tld.partialWords.length = 2 := by
      rw [List.length_append, List.length_singleton] at h
      omega
    split
    · next hlast =>
      refine .inl ⟨?_, rfl⟩
      unfold room
      rcases hlast with hfill | hzero
      · simp [hfill, htwo]
      · simp [hzero, htwo]
    · next hmore =>
      obtain ⟨hfill, hr⟩ := not_or.1 hmore
      refine .inr ⟨?_, hopen, by simp, ?_, rfl⟩
      · simp only [room, if_neg hfill, htwo]
        omega
      · simp only [room, if_neg hfill, htwo, List.length_nil]
        omega

/-- A run of words on an OPEN load: taken as far as there is room, which the load outlives by a word at least. -/
theorem loadWords_room (ws : List Word) (hopen : s.tld.isOpen = true) (hpartial : s.tld.partialWords.length < 3)
    (n : Nat) : (ws.foldl loadWord (s, n)).2 = n + min ws.length (room s.tld) ∧
      ((ws.foldl loadWord (s, n)).1.tld.isOpen = true ↔ ws.length < room s.tld) := by
  induction ws generalizing s n with
  | nil =>
    refine ⟨by simp, fun _ => ?_, fun _ => hopen⟩
    unfold room
    simp only [List.length_nil]
    split <;> omega
  | cons w ws ih =>
    have hcount := loadWord_count hopen n w
    rw [List.foldl_cons, List.length_cons]
    rcases loadWord_room hopen hpartial n w with ⟨hroom, hclosed⟩ | ⟨hroom, hopen', hpartial', hless, _⟩
    · rw [loadWords_closed hclosed, hcount, hclosed, hroom]
      refine ⟨by omega, by simp, by omega⟩
    · obtain ⟨htaken, hstill⟩ := ih hopen' hpartial' (loadWord (s, n) w).2
      rw [htaken, hstill, hcount, hless]
      omega

/-- The count of words taken does not enter into what a word does. -/
theorem loadWord_from (s : State) (n m : Nat) (w : Word) :
    loadWord (s, n + m) w = ((loadWord (s, m) w).1, n + (loadWord (s, m) w).2) := by
  unfold loadWord
  dsimp only
  split
  · split <;> rfl
  · rfl

theorem loadWords_from (ws : List Word) (s : State) (n m : Nat) :
    ws.foldl loadWord (s, n + m) = ((ws.foldl loadWord (s, m)).1, n + (ws.foldl loadWord (s, m)).2) := by
  induction ws generalizing s m with
  | nil => rfl
  | cons w ws ih => rw [List.foldl_cons, loadWord_from, ih, List.foldl_cons]

/-- While a load stays OPEN, each word is counted and the idle timer stands. -/
theorem loadWords_open (ws : List Word) (r : State × Nat) (h : (ws.foldl loadWord r).1.tld.isOpen = true) :
    (ws.foldl loadWord r).2 = r.2 + ws.length ∧ (ws.foldl loadWord r).1.tld.idle = r.1.tld.idle := by
  induction ws generalizing r with
  | nil => exact ⟨rfl, rfl⟩
  | cons w ws ih =>
    obtain ⟨s, n⟩ := r
    rw [List.foldl_cons] at h ⊢
    have hopen : s.tld.isOpen = true := by
      by_contra hclosed
      rw [loadWord_closed (by simpa using hclosed), loadWords_closed (by simpa using hclosed)] at h
      exact hclosed h
    obtain ⟨hcount, hidle⟩ := ih _ h
    refine ⟨by rw [hcount, loadWord_count hopen, List.length_cons, Nat.add_assoc, Nat.add_comm 1], hidle.trans ?_⟩
    have hstill : (loadWord (s, n) w).1.tld.isOpen = true := by
      by_contra hclosed
      rw [loadWords_closed (by simpa using hclosed)] at h
      exact hclosed h
    by_cases hlen : (s.tld.partialWords ++ [w]).length < 3
    · rw [loadWord_waits hopen hlen]
    · rw [loadWord_completes hopen hlen, completeEntry_tld] at hstill ⊢
      split at hstill
      · cases hstill
      · next hmore => rw [if_neg hmore]

/-! ### The bank that a load leaves -/

theorem other_ne (n : BankName) : n.other ≠ n := by cases n <;> decide

theorem bank_foldl_putBank {m n : BankName} (hne : m ≠ n) (f : Tables → Nat → SceneBank) (js : List Nat) (t : Tables) :
    (js.foldl (fun u j => u.putBank n (f u j)) t).bank m = t.bank m := by
  induction js generalizing t with
  | nil => rfl
  | cons j js ih => rw [List.foldl_cons, ih, Tables.bank_putBank_ne (h := hne)]

theorem completeEntry_bank_other (e : Triple) (s : State) :
    (completeEntry e s).tables.bank s.tld.bank.other = s.tables.bank s.tld.bank.other := by
  unfold completeEntry
  dsimp only
  split
  · exact bank_foldl_putBank (other_ne _) _ _ _
  · exact Tables.bank_putBank_ne _ _ _ _ (other_ne _)
  · exact Tables.bank_putBank_ne _ _ _ _ (other_ne _)

theorem loadWord_bank (s : State) (n : Nat) (w : Word) : (loadWord (s, n) w).1.tld.bank = s.tld.bank ∧
    (loadWord (s, n) w).1.tables.bank s.tld.bank.other = s.tables.bank s.tld.bank.other := by
  cases hopen : s.tld.isOpen with
  | false =>
    rw [loadWord_closed hopen]
    exact ⟨rfl, rfl⟩
  | true =>
    by_cases h : (s.tld.partialWords ++ [w]).length < 3
    · rw [loadWord_waits hopen h]
      exact ⟨rfl, rfl⟩
    · rw [loadWord_completes hopen h]
      refine ⟨?_, completeEntry_bank_other _ _⟩
      rw [completeEntry_tld]
      split <;> rfl

/-- A load writes the bank it was opened on. -/
theorem loadWords_bank_other (ws : List Word) (r : State × Nat) :
    (ws.foldl loadWord r).1.tables.bank r.1.tld.bank.other = r.1.tables.bank r.1.tld.bank.other := by
  induction ws generalizing r with
  | nil => rfl
  | cons w ws ih =>
    obtain ⟨hbank, hother⟩ := loadWord_bank r.1 r.2 w
    have h := ih (loadWord r w)
    rw [hbank] at h
    rw [List.foldl_cons, h, hother]

/-! ### Fewer words than an entry, and the words of one entry -/

theorem loadWords_wait (ws : List Word) (hopen : s.tld.isOpen = true) (n : Nat)
    (h : (s.tld.partialWords ++ ws).length ≤ 2) : ws.foldl loadWord (s, n) =
      ({ s with tld := { s.tld with partialWords := s.tld.partialWords ++ ws } }, n + ws.length) := by
  induction ws generalizing s n with
  | nil => simp
  | cons w ws ih =>
    have hshort : (s.tld.partialWords ++ [w]).length < 3 := by
      simp only [List.length_append, List.length_cons, List.length_nil] at h ⊢
      omega
    rw [List.foldl_cons, loadWord_waits hopen hshort]
    refine (ih (s := { s with tld := { s.tld with partialWords := s.tld.partialWords ++ [w] } }) hopen (n + 1)
      (by rwa [List.append_cons] at h)).trans ?_
    simp [Nat.add_comm, Nat.add_assoc]

theorem loadWords_entry {a b c : Word} {ws : List Word} (hopen : s.tld.isOpen = true) (hne : ws ≠ [])
    (h : s.tld.partialWords ++ ws = [a, b, c]) (n : Nat) : ws.foldl loadWord (s, n) =
      (completeEntry ⟨a, b, c⟩ { s with tld := { s.tld with partialWords := [a, b] } }, n + ws.length) := by
  obtain ⟨xs, w, rfl⟩ : ∃ xs w, ws = xs ++ [w] := ⟨_, _, (List.dropLast_append_getLast hne).symm⟩
  have hall : (s.tld.partialWords ++ xs) ++ [w] = [a, b] ++ [c] := by simpa using h
  obtain ⟨hxs, hw⟩ := List.append_inj' hall rfl
  obtain rfl : w = c := by simpa using hw
  rw [List.foldl_append, loadWords_wait xs hopen n (by simp [hxs]), hxs, List.foldl_cons, List.foldl_nil]
  refine (loadWord_completes (s := { s with tld := { s.tld with partialWords := [a, b] } }) hopen (by simp)).trans ?_
  simp [tripleOf, Nat.add_assoc]

/-! ### The run of a FILL -/

theorem storeEntry_bankTable (t : Tables) (n : BankName) (table : BankTable) (i : Nat) (ws : List Word) :
    t.storeEntry n table.id i ws = t.putBank n ((t.bank n).store table i (tripleOf ws)) := by
  cases table <;> rfl

theorem zipIdx_replicate_eq {α : Type} (x : α) (k start : Nat) :
    (List.replicate k x).zipIdx start = (List.range k).map fun j => (x, start + j) := by
  refine List.ext_getElem (by simp) fun i hi hj => ?_
  simp

/-- A FILL stores one entry at every index of its run. -/
theorem completeEntry_fill {a b c : Word} (hfill : s.tld.direction = .fill) :
    (completeEntry ⟨a, b, c⟩ s).tables = s.tables.storeRun s.tld.bank s.tld.table.id s.tld.next
      (List.replicate (s.tld.remaining + 1) [a, b, c]) := by
  rw [Tables.storeRun, zipIdx_replicate_eq, List.foldl_map]
  simp only [storeEntry_bankTable]
  unfold completeEntry
  dsimp only
  split <;> next hdir => simp_all [tripleOf]

theorem completeEntry_step {e : Triple} (hfill : s.tld.direction ≠ .fill) : (completeEntry e s).tables =
    s.tables.putBank s.tld.bank ((s.tables.bank s.tld.bank).store s.tld.table s.tld.next e) := by
  unfold completeEntry
  dsimp only
  split <;> simp_all

/-- Every entry of the table after a FILL (R188). -/
theorem fill_entryWords {a b c : Word} {i size : Nat} (hfill : s.tld.direction = .fill)
    (hsize : tableEntries s.tld.table.id = some size) (hi : i < size) (hrun : s.tld.next + s.tld.remaining < size) :
    (completeEntry ⟨a, b, c⟩ s).tables.entryWords s.tld.bank s.tld.table.id i =
      if s.tld.next ≤ i ∧ i ≤ s.tld.next + s.tld.remaining then [a, b, c]
      else s.tables.entryWords s.tld.bank s.tld.table.id i := by
  have hid : s.tld.table.id < 10 ∧ tableWidth s.tld.table.id = 3 := by cases s.tld.table <;> decide
  obtain ⟨hsame, hother⟩ := storedRunReadsBack s.tables s.tld.bank s.tld.table.id s.tld.next size
    (List.replicate (s.tld.remaining + 1) [a, b, c]) hid.1 hsize (by simp; omega)
    (fun e he => by rw [List.eq_of_mem_replicate he, hid.2]; rfl)
  rw [completeEntry_fill hfill]
  split
  · next hin =>
    have h := hsame (i - s.tld.next) (by simp; omega)
    rwa [Nat.add_sub_cancel' hin.1, List.getElem_replicate] at h
  · next hout =>
    refine hother s.tld.bank s.tld.table.id i size hsize hi (.inr (.inr ?_))
    rw [List.length_replicate]
    omega

/-! ### The obligation -/

theorem takeWords_from (xs ys : List Word) (s : State) : takeWords (xs ++ ys) s =
    ((ys.foldl loadWord ((takeWords xs s).1, 0)).1, (takeWords xs s).2 + (ys.foldl loadWord ((takeWords xs s).1, 0)).2) := by
  rw [takeWords, List.foldl_append]
  exact loadWords_from ys (takeWords xs s).1 (takeWords xs s).2 0

/-- A load that a message leaves OPEN takes the words of the next as if they had come with it. -/
theorem takeWords_append (xs ys : List Word) (hopen : (takeWords xs s).1.tld.isOpen = true) : takeWords (xs ++ ys) s =
    ((takeWords ys (takeWords xs s).1).1, (takeWords xs s).2 + (takeWords ys (takeWords xs s).1).2) := by
  obtain ⟨_, hidle⟩ := loadWords_open xs ({ s with tld := { s.tld with idle := some 0 } }, 0) hopen
  have hset : (takeWords xs s).1.tld.idle = some 0 := hidle
  rw [takeWords_from]
  have hsame : { (takeWords xs s).1 with tld := { (takeWords xs s).1.tld with idle := some 0 } } =
      (takeWords xs s).1 := by rw [← hset]
  show _ = ((ys.foldl loadWord ({ (takeWords xs s).1 with
    tld := { (takeWords xs s).1.tld with idle := some 0 } }, 0)).1, _ + (ys.foldl loadWord ({ (takeWords xs s).1 with
    tld := { (takeWords xs s).1.tld with idle := some 0 } }, 0)).2)
  rw [hsame]

/-- A message after the completion is discarded, and what came before stands. -/
theorem takeWords_append_closed (xs ys : List Word) (hclosed : (takeWords xs s).1.tld.isOpen = false) :
    takeWords (xs ++ ys) s = takeWords xs s := by
  rw [takeWords_from, loadWords_closed (r := ((takeWords xs s).1, 0)) hclosed]
  rfl

theorem takeWords_count (args : List Word) (hopen : (takeWords args s).1.tld.isOpen = true) :
    (takeWords args s).2 = args.length :=
  (loadWords_open args ({ s with tld := { s.tld with idle := some 0 } }, 0) hopen).1.trans (Nat.zero_add _)

theorem loadWords_count_le (ws : List Word) (r : State × Nat) : (ws.foldl loadWord r).2 ≤ r.2 + ws.length := by
  induction ws generalizing r with
  | nil => exact Nat.le_refl _
  | cons w ws ih =>
    have hone : (loadWord r w).2 ≤ r.2 + 1 := by
      cases hopen : r.1.tld.isOpen with
      | false => exact (loadWord_closed hopen w).symm ▸ Nat.le_succ _
      | true => exact (loadWord_count hopen r.2 w).le
    rw [List.foldl_cons, List.length_cons]
    exact (ih _).trans (by omega)

theorem takeWords_count_le (args : List Word) (s : State) : (takeWords args s).2 ≤ args.length :=
  (loadWords_count_le args _).trans_eq (Nat.zero_add _)

theorem takeWords_room (args : List Word) (hopen : s.tld.isOpen = true) (hpartial : s.tld.partialWords.length < 3) :
    (takeWords args s).2 = min args.length (room s.tld) ∧
      ((takeWords args s).1.tld.isOpen = true ↔ args.length < room s.tld) := by
  obtain ⟨htaken, hstill⟩ := loadWords_room (s := { s with tld := { s.tld with idle := some 0 } }) args hopen hpartial 0
  exact ⟨htaken.trans (Nat.zero_add _), hstill⟩

/-- What is left of an OPEN load lies inside its table, which has 1024 entries at most. -/
theorem takeWords_remaining_lt (args : List Word) (hopen : s.tld.isOpen = true) (h : LoaderInv s) :
    (takeWords args s).1.tld.remaining < 1024 := by
  obtain ⟨hpartial, hnext, hdown, hup, htimeout, _⟩ := ((loaderInv_iff s).1 h).2 hopen
  have hok : LoaderOk 0 (takeWords args s).1.tld :=
    loadWords_ok args _ (open_ok hopen ⟨hpartial, hnext, hdown, hup, htimeout, idle_set htimeout⟩)
  generalize (takeWords args s).1.tld = l at hok ⊢
  cases hl : l.isOpen with
  | false => rw [(hok.1 hl).2.1]; decide
  | true =>
    obtain ⟨_, hnext', hdown', hup', _⟩ := hok.2 hl
    have hentries : l.table.entries ≤ 1024 := by cases l.table <;> decide
    by_cases hd : l.direction = .descending
    · have := hdown' hd
      omega
    · have := hup' hd
      omega

/-- Settles O14: the words of a message are taken one by one up to the one that completes the load, so the words of two
messages are those of their append. -/
theorem loadDataTakesAndWritesWords : Obligations.LoadDataTakesAndWritesWords := by
  refine ⟨fun args s h hinv hlow hhigh => ⟨fun hclosed => exec_loadData_closed h hclosed hlow hhigh, fun hopen => ?_⟩,
    fun args a b c s h hopen hlow hthree => ?_, fun args s h hopen hlow hshort => ?_,
    fun xs ys s h hopen hx hy hlen => ?_⟩
  · obtain ⟨htaken, hstill⟩ := takeWords_room args hopen (hinv.2 hopen).1
    refine ⟨_, _, _, exec_loadData h hopen hlow hhigh, ⟨?_, ?_, ?_, hstill⟩, fun hafter => ?_, ?_⟩
    · rw [loadDataWord_taken (by omega), htaken]
      rfl
    · exact loadDataWord_remaining _ (takeWords_remaining_lt args hopen hinv) _
    · exact loadDataWord_completed _ _ _
    · exact (loadWords_open args _ hafter).2
    · have hother : (takeWords args s).1.tables.bank s.tld.bank.other = s.tables.bank s.tld.bank.other :=
        loadWords_bank_other args ({ s with tld := { s.tld with idle := some 0 } }, 0)
      obtain ⟨_, _, _, e⟩ := takeWords_frame args s
      refine ⟨?_, ?_, ?_, ?_, ?_, ?_, ?_, ?_, hother⟩ <;> rw [e] <;> rfl
  · have hne : args ≠ [] := by rintro rfl; simp at hlow
    have hle : args.length ≤ 3 := by
      have := congrArg List.length hthree
      simp at this
      omega
    have hwords : takeWords args s = (completeEntry ⟨a, b, c⟩ { s with tld := { s.tld with
        partialWords := [a, b], idle := some 0 } }, args.length) := by
      refine (loadWords_entry (s := { s with tld := { s.tld with idle := some 0 } }) hopen hne hthree 0).trans ?_
      rw [Nat.zero_add]
    have hexec := exec_loadData h hopen hlow (by omega)
    rw [hwords] at hexec
    refine ⟨_, _, _, hexec, loadDataWord_taken (by omega) _ _, fun hfill => ⟨completeEntry_step hfill, ?_, ?_⟩,
      fun hfill => ⟨fun i size hsize hi hrun => fill_entryWords hfill hsize hi hrun, ?_⟩⟩
    · intro hr
      rw [completeEntry_tld, if_neg (not_or.2 ⟨hfill, Nat.ne_of_gt hr⟩)]
    · intro hr
      rw [completeEntry_tld, if_pos (.inr hr), Tld.closed, ← hr]
    · rw [completeEntry_tld, if_pos (.inl hfill)]
      rfl
  · have hwords : takeWords args s = ({ s with tld := { s.tld with
        partialWords := s.tld.partialWords ++ args, idle := some 0 } }, args.length) := by
      refine (loadWords_wait (s := { s with tld := { s.tld with idle := some 0 } }) args hopen 0 hshort).trans ?_
      rw [Nat.zero_add]
    rw [List.length_append] at hshort
    have hexec := exec_loadData h hopen hlow (by omega)
    rw [hwords] at hexec
    exact ⟨_, hexec, loadDataWord_taken (by omega) _ _⟩
  · have hx62 : xs.length ≤ 62 := by omega
    have hy62 : ys.length ≤ 62 := by omega
    have hxs := exec_loadData h hopen hx hx62
    have hall := exec_loadData (args := xs ++ ys) h hopen (by simp; omega) (by simpa using hlen)
    refine ⟨_, _, _, _, _, _, hxs, hall, fun hclosed => ?_, fun hmid => ?_⟩
    · rw [takeWords_append_closed xs ys hclosed]
      exact ⟨rfl, rfl, rfl⟩
    · have hready : Ready .addressed (takeWords xs s).1 := by
        rw [← takeWords_eq]
        exact h
      have hys := exec_loadData hready hmid hy hy62
      rw [takeWords_eq] at hys
      have hcount := takeWords_count xs hmid
      have hcountY := takeWords_count_le ys (takeWords xs s).1
      rw [takeWords_eq, takeWords_eq, takeWords_append xs ys hmid]
      refine ⟨_, hys, ?_, ?_⟩
      · rw [loadDataWord_taken (by omega), hcount]
      · rw [loadDataWord_taken (by dsimp only; omega), loadDataWord_taken (by omega), hcount]

end Sys2Proof.Machine
end

section
/-! The events of the timers and of the guard as rows of their own (R66, R67, R99 to R108, R191). -/

namespace Sys2Proof.Machine

variable {s : State}

/-! ### Faults -/

/-- An empty fault record captures a fault (R172). -/
theorem raise_captured (k : FaultKind) (d : Nat) (h : s.cmu.fault = none) :
    raise k d s = { s with cmu := { s.cmu with fault := some ⟨k, s.rtx.number, d⟩ } } := by
  rcases raiseAt_cases s.rtx.number k d s with ⟨_, e⟩ | ⟨hf, _⟩
  · exact e
  · simp [h] at hf

/-- A record that holds a fault counts the next one (R172). -/
theorem raise_counted (k : FaultKind) (d : Nat) (h : s.cmu.fault.isSome = true) :
    raise k d s = { s with cmu := { s.cmu with laterCount := min (s.cmu.laterCount + 1) 255 } } := by
  rcases raiseAt_cases s.rtx.number k d s with ⟨hf, _⟩ | ⟨_, e⟩
  · simp [hf] at h
  · exact e

/-! ### Refresh and the loader's timeout -/

/-- An expiry of the refresh timer restarts it and adds its request (R66). -/
theorem exec_refreshTimerExpiry {due : Nat} (h : s.dmc.refreshDue = some due) : exec .refreshTimerExpiry s =
    .next (addRefresh { s with dmc := { s.dmc with refreshDue := some (due + s.dmc.timing.interval) } }) := by
  show execRefreshTimerExpiry s = _
  rw [execRefreshTimerExpiry, h]

theorem addRefresh_added (h : s.dmc.pendingRefresh < 7) :
    addRefresh s = { s with dmc := { s.dmc with pendingRefresh := s.dmc.pendingRefresh + 1 } } := if_pos h

/-- A request past the seventh is an overrun, whose fault an empty record captures (R67, R172). -/
theorem addRefresh_captured (h : 7 ≤ s.dmc.pendingRefresh) (hfault : s.cmu.fault = none) : addRefresh s = { s with
    dmc := { s.dmc with refreshOverruns := saturate s.dmc.refreshOverruns 1 }
    cmu := { s.cmu with fault := some ⟨.refreshOverrun, s.rtx.number, 0⟩ } } := by
  rw [addRefresh, if_neg (by omega)]
  exact raise_captured _ _ hfault

/-- A request past the seventh is an overrun, whose fault a record that holds one counts (R67, R172). -/
theorem addRefresh_counted (h : 7 ≤ s.dmc.pendingRefresh) (hfault : s.cmu.fault.isSome = true) : addRefresh s = { s with
    dmc := { s.dmc with refreshOverruns := saturate s.dmc.refreshOverruns 1 }
    cmu := { s.cmu with laterCount := min (s.cmu.laterCount + 1) 255 } } := by
  rw [addRefresh, if_neg (by omega)]
  exact raise_counted _ _ hfault

theorem loadTimeoutNow_open (h : s.tld.isOpen = true) :
    loadTimeoutNow s = raise .loadTimeout s.tld.table.id { s with tld := s.tld.closed } := if_pos h

theorem loadTimeoutNow_closed (h : s.tld.isOpen = false) : loadTimeoutNow s = s := by
  simp [loadTimeoutNow, h]

/-- Settles O46: a request below 7 is added and one at 7 raises its fault, and the expiry of an OPEN loader closes it
with its fault. -/
theorem timersRaiseTheirFaults : Obligations.TimersRaiseTheirFaults := by
  refine ⟨fun due s hdue => ⟨fun hlow => ?_, fun hfull hfault => ?_, fun hfull hfault => ?_⟩,
    fun s => ⟨fun hopen hfault => ?_, fun hopen hfault => ?_, fun hopen => ?_⟩⟩
  · exact (exec_refreshTimerExpiry hdue).trans (congrArg Host.Outcome.next (addRefresh_added hlow))
  · exact (exec_refreshTimerExpiry hdue).trans
      (congrArg Host.Outcome.next (addRefresh_captured hfull hfault))
  · exact (exec_refreshTimerExpiry hdue).trans
      (congrArg Host.Outcome.next (addRefresh_counted hfull hfault))
  · show Host.Outcome.next (loadTimeoutNow s) = _
    rw [loadTimeoutNow_open hopen]
    exact congrArg Host.Outcome.next (raise_captured _ _ hfault)
  · show Host.Outcome.next (loadTimeoutNow s) = _
    rw [loadTimeoutNow_open hopen]
    exact congrArg Host.Outcome.next (raise_counted _ _ hfault)
  · show Host.Outcome.next (loadTimeoutNow s) = _
    rw [loadTimeoutNow_closed hopen]

/-! ### The guard's events -/

/-- A latched NOTE or CUT detector counts its trip in the total alone (R100, R103). -/
theorem takeTrip_latched {d : Detector} (hflag : d.flag = true) (haction : d.entry.action ≠ .reduce) :
    d.takeTrip = ({ d with total := saturate d.total 1, forgive := 0 }, false) := by
  simp [Detector.takeTrip, hflag, haction]

/-- A trip below the limit is counted (R100). -/
theorem takeTrip_counted {d : Detector} (hfree : d.flag = false ∨ d.entry.action = .reduce)
    (hlimit : d.trips + 1 < d.entry.tripLimit) :
    d.takeTrip = ({ d with total := saturate d.total 1, forgive := 0, trips := d.trips + 1 }, false) := by
  have hlatch : (d.flag && decide (d.entry.action ≠ .reduce)) = false := by rcases hfree with h | h <;> simp [h]
  simp only [Detector.takeTrip, hlatch, Bool.false_eq_true, if_false, if_neg (show ¬d.entry.tripLimit ≤ d.trips + 1 by omega)]

/-- A trip at the limit overflows: the flag is set and the count starts anew (R100). -/
theorem takeTrip_overflow {d : Detector} (hfree : d.flag = false ∨ d.entry.action = .reduce)
    (hlimit : d.entry.tripLimit ≤ d.trips + 1) :
    d.takeTrip = ({ d with total := saturate d.total 1, forgive := 0, flag := true, trips := 0 }, true) := by
  have hlatch : (d.flag && decide (d.entry.action ≠ .reduce)) = false := by rcases hfree with h | h <;> simp [h]
  simp only [Detector.takeTrip, hlatch, Bool.false_eq_true, if_false, if_pos hlimit]

/-- TRIP of an enabled detector, by what the trip makes of it. -/
theorem tripDetector_of_takeTrip {i : Fin 24} {d : Detector} {overflows : Bool}
    (henable : (s.sgd.detectors.get i).entry.enable = true)
    (htrip : { s.sgd.detectors.get i with debounce := (s.sgd.detectors.get i).entry.debounceWindows }.takeTrip =
      (d, overflows)) :
    tripDetector i s = if overflows then
        overflowNow (s.sgd.detectors.get i).entry { s with sgd := { s.sgd with detectors := s.sgd.detectors.put i d } }
      else { s with sgd := { s.sgd with detectors := s.sgd.detectors.put i d } } := by
  simp only [tripDetector, henable, if_true, htrip]

/-- An overflow that is no CUT acts on its group and raises no fault (R103, R104). -/
theorem overflowNow_quiet {e : DetectorEntry} (h : e.action ≠ .cut) :
    overflowNow e s = { s with sgd := { s.sgd with groups := overflowGroup e s.sgd.groups } } := if_neg h

/-- A CUT overflow raises GUARD_CUT with its group (R105). -/
theorem overflowNow_cut {e : DetectorEntry} (h : e.action = .cut) :
    overflowNow e s = raise .guardCut e.group.val
      { s with sgd := { s.sgd with groups := overflowGroup e s.sgd.groups } } := if_pos h

/-- Settles O47: what each event row of the guard does to its detector and its group. -/
theorem guardEventsActAlone : Obligations.GuardEventsActAlone := by
  refine ⟨fun s => ⟨fun i => ?_, fun g => ?_⟩, fun i s => ?_⟩
  · show ∃ ds, Host.Outcome.next (forgiveDetector i s) = _ ∧ _
    unfold forgiveDetector
    dsimp only
    split
    · exact ⟨_, rfl, fun j hj => Regs.get_put_ne _ _ (Ne.symm hj), Regs.get_put_same ..⟩
    · exact ⟨_, rfl, fun _ _ => rfl, rfl⟩
  · refine ⟨_, rfl, fun h hh => ?_, ?_⟩
    · rw [Regs.get_edit, if_neg (Ne.symm hh)]
    · rw [Regs.get_edit, if_pos rfl]
      simp [Group.recover]
  · intro d g counted
    refine ⟨fun henable => ?_, fun henable => ⟨fun ⟨hflag, haction⟩ => ?_, fun hfree hlimit => ?_,
      fun hfree hlimit => ⟨fun haction => ?_, fun haction => ?_, fun haction hfault => ?_, fun haction hfault => ?_⟩⟩⟩
    · have hoff : (s.sgd.detectors.get i).entry.enable = false := henable
      show Host.Outcome.next (tripDetector i s) = _
      simp [tripDetector, hoff]
    · show Host.Outcome.next (tripDetector i s) = _
      rw [tripDetector_of_takeTrip henable (takeTrip_latched hflag haction)]
      rfl
    · show Host.Outcome.next (tripDetector i s) = _
      rw [tripDetector_of_takeTrip henable (takeTrip_counted hfree hlimit)]
      rfl
    · show Host.Outcome.next (tripDetector i s) = _
      rw [tripDetector_of_takeTrip henable (takeTrip_overflow hfree hlimit), if_pos rfl,
        overflowNow_quiet (by rw [haction]; decide), overflowGroup, haction]
      rfl
    · show Host.Outcome.next (tripDetector i s) = _
      rw [tripDetector_of_takeTrip henable (takeTrip_overflow hfree hlimit), if_pos rfl,
        overflowNow_quiet (by rw [haction]; decide), overflowGroup, haction]
      rfl
    · show Host.Outcome.next (tripDetector i s) = _
      rw [tripDetector_of_takeTrip henable (takeTrip_overflow hfree hlimit), if_pos rfl, overflowNow_cut haction,
        overflowGroup, haction]
      exact congrArg Host.Outcome.next (raise_captured _ _ hfault)
    · show Host.Outcome.next (tripDetector i s) = _
      rw [tripDetector_of_takeTrip henable (takeTrip_overflow hfree hlimit), if_pos rfl, overflowNow_cut haction,
        overflowGroup, haction]
      exact congrArg Host.Outcome.next (raise_counted _ _ hfault)

end Sys2Proof.Machine
end

section
/-! The attenuation factor of R1 in the reals. -/

namespace Sys2Proof.Machine

/-- The fortieth power of 65536 × 10^(−k/40) is 2^640 / 10^k. -/
theorem doubled_factor_pow (k : Nat) : (65536 * (10 : ℝ) ^ (-(k : ℝ) / 40)) ^ 40 * 10 ^ k = 2 ^ 640 := by
  have hroot : ((10 : ℝ) ^ (-(k : ℝ) / 40)) ^ 40 * 10 ^ k = 1 := by
    rw [← Real.rpow_natCast ((10 : ℝ) ^ _) 40, ← Real.rpow_mul (by norm_num), ← Real.rpow_natCast 10 k,
      ← Real.rpow_add (by norm_num), show -(k : ℝ) / 40 * ((40 : ℕ) : ℝ) + (k : ℝ) = 0 by push_cast; ring,
      Real.rpow_zero]
  rw [mul_pow, mul_assoc, hroot, mul_one, show (65536 : ℝ) = 2 ^ 16 by norm_num, ← pow_mul]

/-- A Ga that is no MUTE is at least 1. -/
theorem ga_pos : ∀ k < 61, 0 < ga k := by decide +kernel

/-- Settles O51: each Ga is the rounded exponential, because its doubled neighbours lie on either side of the doubled
exponential in the fortieth power. -/
theorem attenuationFactorsAreRounded : Obligations.AttenuationFactorsAreRounded := by
  refine ⟨fun k hk => ?_, ga_mute, rfl⟩
  obtain ⟨hlow, hhigh⟩ := ga_rounds k (by omega)
  have hpos := ga_pos k (by omega)
  have hpow := doubled_factor_pow k
  have hx : 0 ≤ 65536 * (10 : ℝ) ^ (-(k : ℝ) / 40) := by positivity
  have hten : (0 : ℝ) < 10 ^ k := by positivity
  have hlow' : (2 * (ga k : ℝ) - 1) ^ 40 * 10 ^ k ≤ 2 ^ 640 := by
    have h := (Nat.cast_le (α := ℝ)).2 hlow
    rwa [Nat.cast_mul, Nat.cast_pow, Nat.cast_pow, Nat.cast_pow, Nat.cast_sub (by omega), Nat.cast_mul, Nat.cast_ofNat,
      Nat.cast_one, Nat.cast_ofNat] at h
  have hhigh' : (2 : ℝ) ^ 640 < (2 * (ga k : ℝ) + 1) ^ 40 * 10 ^ k := by
    have h := (Nat.cast_lt (α := ℝ)).2 hhigh
    rwa [Nat.cast_mul, Nat.cast_pow, Nat.cast_pow, Nat.cast_pow, Nat.cast_add, Nat.cast_mul, Nat.cast_ofNat,
      Nat.cast_one, Nat.cast_ofNat] at h
  clear hlow hhigh
  generalize (2 : ℝ) ^ 640 = bound at hpow hlow' hhigh'
  have hle : 2 * (ga k : ℝ) - 1 ≤ 65536 * (10 : ℝ) ^ (-(k : ℝ) / 40) :=
    le_of_pow_le_pow_left₀ (n := 40) (by norm_num) hx (le_of_mul_le_mul_right (hlow'.trans hpow.ge) hten)
  have hlt : 65536 * (10 : ℝ) ^ (-(k : ℝ) / 40) < 2 * (ga k : ℝ) + 1 :=
    lt_of_pow_lt_pow_left₀ 40 (by positivity) (lt_of_mul_lt_mul_right (hpow.trans_lt hhigh') hten.le)
  symm
  rw [Int.floor_eq_iff]
  push_cast
  constructor <;> linarith

end Sys2Proof.Machine
end

section
/-! The finishes of the survey: the fields of a RESULTS entry (R210) and how the survey goes on (R200, R201, R203). -/

namespace Sys2Proof.Machine

variable {s : State} {c : SurveyConfig}

/-! ### RESULTS entries -/

/-- Word 0 of a RESULTS entry: the kind, the level and the sequence. -/
theorem resultHead_fields {kind sequence : Nat} {level : Int} (hkind : kind < 4) (hlow : -480 ≤ level) (hhigh : level ≤ 0)
    (hseq : sequence < 256) :
    let w := placed 22 2 kind ||| placedSigned 12 10 level ||| placed 0 8 sequence
    field w 23 22 = kind ∧ signedField w 21 12 = level ∧ field w 7 0 = sequence ∧ field w 11 8 = 0 := by
  intro w
  have hmod : (level % 2 ^ 10).toNat < 2 ^ 10 := by omega
  have hw : w.toNat = sequence + 2 ^ 12 * (level % 2 ^ 10).toNat + 2 ^ 22 * kind := by
    have e : w = placed 0 8 sequence ||| placed 12 10 (level % 2 ^ 10).toNat ||| placed 22 2 kind := by
      show placed 22 2 kind ||| placedSigned 12 10 level ||| placed 0 8 sequence = _
      rw [placedSigned, BitVec.or_comm, BitVec.or_comm (placed 22 2 kind), BitVec.or_assoc]
    rw [e]
    exact ((packs_placed (width := 8) (by decide) hseq).placed (lo := 12) (width := 10) (by decide) (by decide) hmod
      |>.placed (lo := 22) (width := 2) (by decide) (by decide) hkind).1
  simp only [signedField, field, hw, Nat.shiftRight_eq_div_pow]
  refine ⟨by omega, ?_, by omega, by omega⟩
  split <;> omega

theorem nextSequence_lt (v : Svu) : v.nextSequence < 256 := Nat.mod_lt _ (by decide)

theorem levelEntry_head {level : Int} {sequence : Nat} (channel peak : Nat) (hlow : -480 ≤ level) (hhigh : level ≤ 0)
    (hseq : sequence < 256) : field (levelEntry level sequence channel peak).w0 23 22 = 1 ∧
      signedField (levelEntry level sequence channel peak).w0 21 12 = level ∧
      field (levelEntry level sequence channel peak).w0 7 0 = sequence ∧
      field (levelEntry level sequence channel peak).w0 11 8 = 0 :=
  resultHead_fields (kind := 1) (by decide) hlow hhigh hseq

theorem levelEntry_channel (level : Int) (sequence peak : Nat) {channel : Nat} (h : channel < 88) :
    (levelEntry level sequence channel peak).w1.toNat = 65536 * channel := by
  rw [levelEntry, placed_toNat (by decide) (by omega), Nat.mul_comm]
  norm_num

theorem levelEntry_peak (level : Int) (sequence channel : Nat) {peak : Nat} (h : peak ≤ 8388608) :
    (levelEntry level sequence channel peak).w2.toNat = peak := by
  rw [levelEntry, placed_toNat (by decide) (by omega), Nat.pow_zero, Nat.mul_one]

theorem decayEntry_head {reference : Int} {sequence : Nat} (channel t20 t30 : Nat) (hlow : -480 ≤ reference)
    (hhigh : reference ≤ 0) (hseq : sequence < 256) : field (decayEntry reference sequence channel t20 t30).w0 23 22 = 2 ∧
      signedField (decayEntry reference sequence channel t20 t30).w0 21 12 = reference ∧
      field (decayEntry reference sequence channel t20 t30).w0 7 0 = sequence ∧
      field (decayEntry reference sequence channel t20 t30).w0 11 8 = 0 :=
  resultHead_fields (kind := 2) (by decide) hlow hhigh hseq

theorem decayEntry_channel (reference : Int) (sequence t30 : Nat) {channel t20 : Nat} (hchannel : channel < 88)
    (ht20 : t20 ≤ 65535) : (decayEntry reference sequence channel t20 t30).w1.toNat = 65536 * channel + t20 := by
  have hpack := (packs_placed (width := 16) (v := t20) (by decide) (by omega)).placed (lo := 16) (width := 7)
    (v := channel) (by decide) (by decide) (by omega)
  show (placed 16 7 channel ||| placed 0 16 t20).toNat = _
  rw [BitVec.or_comm, hpack.1]
  omega

theorem decayEntry_t30 (reference : Int) (sequence channel t20 : Nat) {t30 : Nat} (h : t30 ≤ 65535) :
    (decayEntry reference sequence channel t20 t30).w2.toNat = t30 := by
  rw [decayEntry, placed_toNat (by decide) (by omega), Nat.pow_zero, Nat.mul_one]

/-! ### How the survey goes on -/

variable (v : Svu)

/-- The survey once a level measurement has finished: the sequence counted on, and the mode's way on (R200, R201). -/
def Svu.levelDone (v : Svu) (c : SurveyConfig) : Svu :=
  Svu.afterLevel { v with sequence := v.nextSequence } c

/-- The RESULTS entry that a level measurement leaves (R200). -/
def levelResult (c : SurveyConfig) (v : Svu) : Triple :=
  levelEntry (lev (v.sum / 2 ^ c.exponent)) v.nextSequence (surveyChannel c v.position) v.peak

/-- The index of that entry: the channel position in a sweep (R200). -/
def levelIndex (c : SurveyConfig) (v : Svu) : Fin 16 := Fin.ofNat 16 (if c.mode.sweeps then v.position else 0)

theorem finishLevel_eq (c : SurveyConfig) (s : State) : finishLevel c s = { s with
    tables := { s.tables with results := s.tables.results.put (levelIndex c s.svu) (levelResult c s.svu) }
    svu := s.svu.levelDone c } := rfl

theorem levelDone_repeat (h : c.mode = .levelRepeat) : v.levelDone c =
    { v with sequence := v.nextSequence, position := 0, counter := 0, sum := 0, peak := 0 } := by
  simp [Svu.levelDone, Svu.afterLevel, Svu.again, h]

theorem levelDone_repeatSweep (h : c.mode = .levelRepeatSweep) : v.levelDone c = { v with
    sequence := v.nextSequence, position := (v.position + 1) % c.group, counter := 0, sum := 0, peak := 0 } := by
  simp [Svu.levelDone, Svu.afterLevel, Svu.again, h]

theorem levelDone_next (h : c.mode = .levelSweep) (hnext : v.position + 1 < c.group) : v.levelDone c = { v with
    sequence := v.nextSequence, position := v.position + 1, counter := 0, sum := 0, peak := 0 } := by
  simp [Svu.levelDone, Svu.afterLevel, Svu.again, h, hnext]

theorem levelDone_last (h : c.mode = .levelSingle ∨ (c.mode = .levelSweep ∧ c.group ≤ v.position + 1)) :
    v.levelDone c = Svu.rest { v with sequence := v.nextSequence } c := by
  rcases h with h | ⟨h, hlast⟩
  · simp [Svu.levelDone, Svu.afterLevel, h]
  · simp [Svu.levelDone, Svu.afterLevel, h, Nat.not_lt.2 hlast]

theorem rest_now (h : c.trigger = .now) : v.rest c = { v with state := .idle, config := none } := if_pos h

theorem rest_waiting (h : c.trigger ≠ .now) : v.rest c = { v with state := .waiting } := if_neg h

@[simp] theorem levelDone_sequence (c : SurveyConfig) : (v.levelDone c).sequence = v.nextSequence := by
  unfold Svu.levelDone Svu.afterLevel Svu.rest
  (repeat' split) <;> rfl

/-! ### The finish rows -/

theorem exec_levelFinish (hstate : s.svu.state = .measuring) (hconfig : s.svu.config = some c) (hmode : c.mode ≠ .decay) :
    exec .levelFinish s = .next (finishLevel c s) := by
  show Host.Outcome.next (levelFinishNow s) = _
  simp only [levelFinishNow, hstate, hconfig, if_neg hmode]

theorem exec_decayFinish (hstate : s.svu.state = .measuring) (hconfig : s.svu.config = some c) (hmode : c.mode = .decay) :
    exec .decayFinish s = .next (finishDecay c s) := by
  show Host.Outcome.next (decayFinishNow s) = _
  simp only [decayFinishNow, hstate, hconfig, if_pos hmode]

theorem surveyChannel_lt {position : Nat} (h : c.start + position < 88) : surveyChannel c position < 88 := by
  unfold surveyChannel
  split <;> omega

/-- Settles O49: each finish row writes its entry and goes on by the mode. -/
theorem finishRowsWriteTheirEntries : Obligations.FinishRowsWriteTheirEntries := by
  refine ⟨fun c s hstate hconfig hmode hposition hchannel hpeak => ?_,
    fun c s reference hstate hconfig hmode hstart href hlow hhigh ht20 ht30 => ?_⟩
  · obtain ⟨hkind, hlevel, hseq, hzero⟩ := levelEntry_head (surveyChannel c s.svu.position) s.svu.peak
      (lev_range (s.svu.sum / 2 ^ c.exponent)).1 (lev_range _).2 (nextSequence_lt s.svu)
    refine ⟨_, _, (exec_levelFinish hstate hconfig hmode).trans (congrArg Host.Outcome.next (finishLevel_eq c s)), hkind, hlevel, hseq, hzero,
      levelEntry_channel _ _ _ (surveyChannel_lt hchannel), levelEntry_peak _ _ _ hpeak, levelDone_sequence _ _,
      fun h => ?_, fun h => ?_, fun h hnext => ?_, fun h => ?_⟩
    · rw [levelDone_repeat _ h]
    · rw [levelDone_repeatSweep _ h]
    · rw [levelDone_next _ h hnext]
    · rw [levelDone_last _ h]
      refine ⟨fun ht => ?_, fun ht => ?_⟩
      · rw [rest_now _ ht]
        exact ⟨rfl, rfl⟩
      · rw [rest_waiting _ ht]
        exact ⟨rfl, hconfig⟩
  · obtain ⟨hkind, hlevel, hseq, hzero⟩ := decayEntry_head c.start (s.svu.t20.getD 65535) (s.svu.t30.getD 65535)
      hlow hhigh (nextSequence_lt s.svu)
    refine ⟨_, ?_, hkind, hlevel, hseq, hzero, decayEntry_channel _ _ _ hstart ht20, decayEntry_t30 _ _ _ _ ht30⟩
    rw [exec_decayFinish hstate hconfig hmode]
    simp only [finishDecay, putResult, href, Option.getD_some]
    rfl

end Sys2Proof.Machine
end

section
/-! The events of the ring: what the receiver makes of a failing frame, and an event that opens no window
(R136 to R142, R153, R158, R160). -/

namespace Sys2Proof.Machine

variable {s : State} {time : Nat} {j : Taken}

/-! ### The rows of the ring -/

theorem exec_frameArrival (time : Nat) (f : Frame) (s : State) :
    exec (.frameArrival time f) s = ringOutcome time (s.rrx.takeFrame time f) s := rfl

theorem exec_watchExpiry (h : watchTime s.rrx = some time) :
    exec .watchExpiry s = ringOutcome time s.rrx.takeMissing s := by
  show execWatchExpiry s = _
  rw [execWatchExpiry, h]

theorem exec_localFrameTimerExpiry (h : localTime s.rrx = some time) :
    exec .localFrameTimerExpiry s = ringOutcome time s.rrx.takeLocal s := by
  show execLocalFrameTimerExpiry s = _
  rw [execLocalFrameTimerExpiry, h]

theorem ringOutcome_opens {o : Opening} (h : j.opening = some o) (hrows : rowsExist s = true) :
    ringOutcome time j s = .next (openWindow time j o (endWindow s)) := by
  simp [ringOutcome, takeRingEvent, h, hrows]

theorem ringOutcome_quiet (h : j.opening = none) : ringOutcome time j s = .next (takeEvent j (handBad s)) := by
  simp [ringOutcome, takeRingEvent, h]

/-! ### Failing frames -/

variable {r : Rrx}

/-- The tolerance is not reached by this failing frame: it is the first, or one of those allowed (R142). -/
def Tolerated (r : Rrx) : Prop :=
  (r.lock = .locked ∧ 2 ≤ r.ringset.tolerance) ∨ (r.lock = .flywheel ∧ r.badCount + 1 < r.ringset.tolerance)

/-- The tolerance is reached by this failing frame (R142). -/
def Exhausted (r : Rrx) : Prop :=
  (r.lock = .locked ∧ r.ringset.tolerance ≤ 1) ∨ (r.lock = .flywheel ∧ r.ringset.tolerance ≤ r.badCount + 1)

theorem Tolerated.following (h : Tolerated r) : r.lock = .locked ∨ r.lock = .flywheel := h.imp And.left And.left

theorem Exhausted.following (h : Exhausted r) : r.lock = .locked ∨ r.lock = .flywheel := h.imp And.left And.left

theorem cellsReach_following (h : r.lock = .locked ∨ r.lock = .flywheel) : cellsReach r.lock = true := by
  rcases h with h | h <;> rw [h] <;> rfl

/-- A failing frame below the tolerance leads to FLYWHEEL (R141, R142). -/
theorem takeFailing_tolerated (h : Tolerated r) (o : Option Opening) :
    r.takeFailing o = ⟨r.flywheel o.isSome, false, false, o⟩ := by
  have hbelow : ¬r.ringset.tolerance ≤ if r.lock = .locked then 1 else r.badCount + 1 := by
    rcases h with ⟨hl, ht⟩ | ⟨hl, ht⟩
    · rw [if_pos hl]
      omega
    · rw [if_neg (by simp [hl])]
      omega
  exact if_neg hbelow

/-- A failing frame at the tolerance loses lock (R142). -/
theorem takeFailing_exhausted (h : Exhausted r) (o : Option Opening) :
    r.takeFailing o = ⟨(r.flywheel o.isSome).lose, true, true, o⟩ := by
  have hreach : r.ringset.tolerance ≤ if r.lock = .locked then 1 else r.badCount + 1 := by
    rcases h with ⟨hl, ht⟩ | ⟨hl, ht⟩
    · rwa [if_pos hl]
    · rwa [if_neg (by simp [hl])]
  exact if_pos hreach

/-- A frame too soon after the window start fails, whatever its check (R136). -/
theorem takeFrame_spurious (h : r.lock = .locked ∨ r.lock = .flywheel) (f : Frame) (hsoon : time < r.lastStart + 461) :
    r.takeFrame time f = r.countBad.takeFailing none := by
  have hsoon : tooSoon r time = true := by simpa [tooSoon] using hsoon
  rcases h with h | h <;> simp [Rrx.takeFrame, h, Rrx.takeFollowing, hsoon]

theorem takeFrame_bad (h : r.lock = .locked ∨ r.lock = .flywheel) {f : Frame} (hbad : frameGood f = false)
    (hlate : r.lastStart + 461 ≤ time) : r.takeFrame time f = r.countBad.takeFailing (some (.bad f)) := by
  have hlate : tooSoon r time = false := by simpa [tooSoon] using hlate
  rcases h with h | h <;> simp [Rrx.takeFrame, h, Rrx.takeFollowing, hlate, hbad]

theorem takeFrame_good (h : r.lock = .locked ∨ r.lock = .flywheel) {f : Frame} (hgood : frameGood f = true)
    (hlate : r.lastStart + 461 ≤ time) : r.takeFrame time f = Taken.opens (r.takeFollowed time f) (.good f) := by
  have hlate : tooSoon r time = false := by simpa [tooSoon] using hlate
  rcases h with h | h <;> simp [Rrx.takeFrame, h, Rrx.takeFollowing, hlate, hgood]

/-! ### The Command Unit -/

theorem overrunHeld_eq (k : Cmu) :
    overrunHeld k = (k.headerHeld && k.replyBuffer.head?.any fun h => h.payload.getLsbD 8) := by
  unfold overrunHeld
  cases k.replyBuffer <;> rfl

/-- The Command Unit once its traffic is abandoned (R160, R168). -/
def Cmu.abandoned (k : Cmu) : Cmu := { k with
  unit := .idle, assembly := none, replyBuffer := [], headerHeld := false
  truncated := if k.assembly.isSome then saturate k.truncated 1 else k.truncated
  overrun := k.overrun || overrunHeld k }

theorem abandonTraffic_eq (s : State) : abandonTraffic s = { s with cmu := s.cmu.abandoned } := by
  unfold abandonTraffic Cmu.abandoned
  rcases discardAssembly_cases s with ⟨ha, h⟩ | ⟨ha, h⟩
  · rw [h]
    simp [ha]
  · rw [h]
    simp [ha, overrunHeld]

/-- A failing frame marks the message in progress (R158). -/
def Cmu.damagedNow (k : Cmu) : Cmu := { k with damaged := k.damaged || k.assembly.isSome }

theorem handBad_following (h : cellsReach s.rrx.lock = true) : handBad s = { s with cmu := s.cmu.damagedNow } := by
  rw [handBad, if_pos h, damageMessage_eq]
  rfl

theorem handBad_lost (h : cellsReach s.rrx.lock = false) : handBad s = s := by
  rw [handBad, h]
  rfl

/-- The Command Unit after a fault has reached its record (R172). -/
def Cmu.raised (k : Cmu) (kind : FaultKind) (number : BitVec 8) (detail : Nat) : Cmu := { k with
  fault := if k.fault.isSome then k.fault else some ⟨kind, number, detail⟩
  laterCount := if k.fault.isSome then min (k.laterCount + 1) 255 else k.laterCount }

theorem raiseAt_eq (n : BitVec 8) (k : FaultKind) (d : Nat) (s : State) :
    raiseAt n k d s = { s with cmu := s.cmu.raised k n d } := by
  rcases raiseAt_cases n k d s with ⟨hf, h⟩ | ⟨hf, h⟩ <;> simp [Cmu.raised, h, hf]

theorem raise_eq (k : FaultKind) (d : Nat) (s : State) :
    raise k d s = { s with cmu := s.cmu.raised k s.rtx.number d } := raiseAt_eq _ k d s

/-- The Command Unit as an event of the ring leaves it (R142, R160). -/
def Cmu.taken (k : Cmu) (j : Taken) (number : BitVec 8) : Cmu :=
  let b := if j.lost then k.raised .lockLost number 0 else k
  if j.searching then b.abandoned else b

theorem takeEvent_eq (j : Taken) (s : State) :
    takeEvent j s = { s with rrx := j.rrx, cmu := s.cmu.taken j s.rtx.number } := by
  cases hl : j.lost <;> cases hs : j.searching <;> simp [takeEvent, hl, hs, abandonTraffic_eq, raise_eq, Cmu.taken]

theorem taken_lost (k : Cmu) (number : BitVec 8) (hlost : j.lost = true) (hsearching : j.searching = true) :
    k.taken j number = (k.raised .lockLost number 0).abandoned := by simp [Cmu.taken, hlost, hsearching]

theorem taken_kept (k : Cmu) (number : BitVec 8) (hlost : j.lost = false) (hsearching : j.searching = false) :
    k.taken j number = k := by simp [Cmu.taken, hlost, hsearching]

/-- Settles O25: a spurious frame is a failing frame that opens no window. -/
theorem spuriousFrameOpensNoWindow : Obligations.SpuriousFrameOpensNoWindow := by
  intro time f s hsoon
  refine ⟨fun h => ?_, fun h => ?_⟩
  · have hfollow := Tolerated.following h
    rw [exec_frameArrival, takeFrame_spurious hfollow f hsoon,
      takeFailing_tolerated (show Tolerated s.rrx.countBad from h), ringOutcome_quiet rfl, takeEvent_eq,
      taken_kept _ _ rfl rfl, handBad_following (cellsReach_following hfollow)]
    simp [Rrx.flywheel, Rrx.countBad, Cmu.damagedNow, saturate]
    rfl
  · have hfollow := Exhausted.following h
    rw [exec_frameArrival, takeFrame_spurious hfollow f hsoon,
      takeFailing_exhausted (show Exhausted s.rrx.countBad from h), ringOutcome_quiet rfl, takeEvent_eq,
      taken_lost _ _ rfl rfl, handBad_following (cellsReach_following hfollow)]
    simp only [Cmu.abandoned, Cmu.raised, Cmu.damagedNow, overrunHeld_eq]
    cases hlocal : s.rrx.localTimer <;> simp [Rrx.lose, Rrx.flywheel, Rrx.countBad, saturate, hlocal] <;>
      exact ⟨rfl, rfl, rfl⟩

end Sys2Proof.Machine
end

section
/-! The window that an event opens, as the event rows see it: the deliveries reach no more than the Command Unit, the
tables, the loader, the scene, the guard, the survey and the counters; and the frame sent is that of the window start. -/

namespace Sys2Proof.Machine

variable {s t u : State} {time : Nat} {j : Taken} {o : Opening}

/-! ### What the deliveries leave alone -/

/-- What a delivery inside a window leaves alone: the ring but for its counters, the lines, the delay memory, the Tap
Engine and the stages but for their clip counts, and the window. -/
def Delivered (s t : State) : Prop := ∃ badFrames missingFrames slips lockLosses cmu tables tld shedLast shedWorst
    shedWindows refreshOverruns busClips outClips scc sgd svu, t = { s with
  rrx := { s.rrx with badFrames := badFrames, missingFrames := missingFrames, slips := slips, lockLosses := lockLosses }
  cmu := cmu, tables := tables, tld := tld
  dmc := { s.dmc with
    shedLast := shedLast, shedWorst := shedWorst, shedWindows := shedWindows, refreshOverruns := refreshOverruns }
  tpe := { s.tpe with busClips := busClips }, ios := { s.ios with outClips := outClips }
  scc := scc, sgd := sgd, svu := svu }

theorem Delivered.refl (s : State) : Delivered s s := ⟨_, _, _, _, _, _, _, _, _, _, _, _, _, _, _, _, rfl⟩

theorem Delivered.trans (h : Delivered s t) (g : Delivered t u) : Delivered s u := by
  obtain ⟨_, _, _, _, _, _, _, _, _, _, _, _, _, _, _, _, rfl⟩ := h
  obtain ⟨_, _, _, _, _, _, _, _, _, _, _, _, _, _, _, _, rfl⟩ := g
  exact ⟨_, _, _, _, _, _, _, _, _, _, _, _, _, _, _, _, rfl⟩

theorem Delivered.ite {b : Bool} (h : Delivered s t) (g : Delivered s u) : Delivered s (if b then t else u) := by
  cases b
  · exact g
  · exact h

theorem Delivered.inWindow (h : Delivered s t) : t.inWindow = s.inWindow := by
  obtain ⟨_, _, _, _, _, _, _, _, _, _, _, _, _, _, _, _, rfl⟩ := h
  rfl

theorem Delivered.rtx (h : Delivered s t) : t.rtx = s.rtx := by
  obtain ⟨_, _, _, _, _, _, _, _, _, _, _, _, _, _, _, _, rfl⟩ := h
  rfl

theorem Delivered.pending (h : Delivered s t) : t.pending = s.pending := by
  obtain ⟨_, _, _, _, _, _, _, _, _, _, _, _, _, _, _, _, rfl⟩ := h
  rfl

theorem Delivered.conditioned (h : Delivered s t) : t.ios.conditioned = s.ios.conditioned := by
  obtain ⟨_, _, _, _, _, _, _, _, _, _, _, _, _, _, _, _, rfl⟩ := h
  rfl

theorem Delivered.rrx (h : Delivered s t) : ∃ badFrames missingFrames slips lockLosses, t.rrx = { s.rrx with
    badFrames := badFrames, missingFrames := missingFrames, slips := slips, lockLosses := lockLosses } := by
  obtain ⟨_, _, _, _, _, _, _, _, _, _, _, _, _, _, _, _, rfl⟩ := h
  exact ⟨_, _, _, _, rfl⟩

theorem delivered_cmu (s : State) (k : Cmu) : Delivered s { s with cmu := k } :=
  ⟨_, _, _, _, _, _, _, _, _, _, _, _, _, _, _, _, rfl⟩

theorem delivered_recordShed (shed : Nat) (s : State) : Delivered s (recordShed shed s) :=
  ⟨_, _, _, _, _, _, _, _, _, _, _, _, _, _, _, _, rfl⟩

theorem delivered_takeMark (s : State) : Delivered s (takeMark s) := by
  obtain ⟨_, _, h⟩ := takeMark_frame (s := s)
  rw [h]
  exact ⟨_, _, _, _, _, _, _, _, _, _, _, _, _, _, _, _, rfl⟩

theorem delivered_handBad (s : State) : Delivered s (handBad s) := by
  obtain ⟨k, h⟩ := handBad_frame s
  rw [h]
  exact delivered_cmu s k

theorem delivered_settleExpiry (s : State) : Delivered s (settleExpiry s) := by
  rcases settleExpiry_cases s with ⟨_, h⟩ | ⟨_, h⟩ <;> rw [h]
  · obtain ⟨_, _, e⟩ := expireLoad_frame s s.rtx.number
    rw [e]
    exact ⟨_, _, _, _, _, _, _, _, _, _, _, _, _, _, _, _, rfl⟩
  · exact .refl s

/-- While a window runs a due swap waits, so no command reaches the lines or the Tap Engine (R76). -/
theorem Acts.delivered (h : Acts s t) (hw : s.inWindow = true) : Delivered s t := by
  cases h with
  | loaded args _ =>
    obtain ⟨_, _, _, _, e⟩ := loadWords_frame args ({ s with tld := { s.tld with idle := some 0 } }, 0)
    rw [e]
    exact ⟨_, _, _, _, _, _, _, _, _, _, _, _, _, _, _, _, rfl⟩
  | due =>
    rcases settleSwap_cases { s with scc := { s.scc with shadowLocked := true, swapDue := true } } with
      ⟨_, hout, _⟩ | ⟨_, e⟩
    · exact absurd (hw.symm.trans hout) (by decide)
    · rw [e]
      exact ⟨_, _, _, _, _, _, _, _, _, _, _, _, _, _, _, _, rfl⟩
  | _ => exact ⟨_, _, _, _, _, _, _, _, _, _, _, _, _, _, _, _, rfl⟩

theorem delivered_endCell (hw : s.inWindow = true) : Delivered s (endCell s) := by
  unfold endCell
  split
  · exact .refl s
  · next via _ =>
    obtain ⟨k, h | ⟨c, args, _, h⟩⟩ :=
      completeMessage_frame { s with cmu := { s.cmu with assembly := none } } via <;> rw [h]
    · exact delivered_cmu s k
    · have hacts : Delivered { s with cmu := { s.cmu with assembly := none } } _ :=
        (effect_acts { s with cmu := { s.cmu with assembly := none } } args c).delivered hw
      exact (delivered_cmu s _).trans (hacts.trans (delivered_cmu _ k))

theorem delivered_takeCell (kind : BitVec 4) (p : Word) (hw : s.inWindow = true) : Delivered s (takeCell kind p s) := by
  rcases takeCell_cases kind p s with ⟨_, e⟩ | ⟨_, e⟩ | ⟨_, e⟩ | e <;> rw [e]
  · obtain ⟨k, e⟩ := selectCell_frame s p
    exact e ▸ delivered_cmu s k
  · obtain ⟨k, e⟩ := wordCell_frame s p
    exact e ▸ delivered_cmu s k
  · exact delivered_endCell hw
  · exact .refl s

/-- The deliveries of a frame that is handed on: the mark and the shed record may come before its cell or after it. -/
theorem deliver_handed {f : Frame} (h : handedFrame s.rrx.lock o = some f) (shed d : Nat) :
    ∃ markLate shedLate : Bool, (markLate = true → f.mark = true) ∧
      ((f.kind = 3 → s.cmu.assembly = none) → markLate = false ∧ shedLate = false) ∧
      deliver o shed d s =
        let a := if f.mark && !markLate then takeMark s else s
        let b := if shedLate then a else recordShed shed a
        let c := takeCell f.kind f.payload b
        let e := if markLate then takeMark c else c
        if shedLate then recordShed shed e else e := by
  refine ⟨racing f s.cmu && f.mark && s.scc.scene == .armed && Config.raceChoice (d + 2),
    racing f s.cmu && (shed ≠ 0 || s.dmc.shedLast ≠ 0) && Config.raceChoice (d + 3), fun hlate => ?_, fun hquiet => ?_, ?_⟩
  · simp only [Bool.and_eq_true] at hlate
    exact hlate.1.1.2
  · have hrace : racing f s.cmu = false := by
      unfold racing
      by_cases hk : f.kind = 3
      · rw [hquiet hk]
        exact Bool.and_false _
      · simp [show ¬f.kind = 3#4 from hk]
    simp [hrace]
  · unfold deliver
    rw [h]

theorem deliver_unhanded (h : handedFrame s.rrx.lock o = none) (shed d : Nat) :
    deliver o shed d s = handBad (recordShed shed s) := by
  unfold deliver
  rw [h]

theorem delivered_deliver (o : Opening) (shed d : Nat) (hw : s.inWindow = true) : Delivered s (deliver o shed d s) := by
  cases h : handedFrame s.rrx.lock o with
  | none =>
    rw [deliver_unhanded h]
    exact (delivered_recordShed shed s).trans (delivered_handBad _)
  | some f =>
    obtain ⟨markLate, shedLate, _, _, e⟩ := deliver_handed h shed d
    rw [e]
    have hmark : Delivered s (if f.mark && !markLate then takeMark s else s) := (delivered_takeMark s).ite (.refl s)
    have hshed := hmark.trans ((Delivered.refl _).ite (b := shedLate) (delivered_recordShed shed _))
    have hcell := hshed.trans (delivered_takeCell f.kind f.payload (hshed.inWindow.trans hw))
    have hmark' := hcell.trans ((delivered_takeMark _).ite (b := markLate) (.refl _))
    exact hmark'.trans ((delivered_recordShed shed _).ite (b := shedLate) (.refl _))

theorem delivered_openWindow (time : Nat) (j : Taken) (o : Opening) (s : State) :
    Delivered (windowStaged o s.draws (windowStart time j s)) (openWindow time j o s) := by
  rw [openWindow_eq]
  exact (delivered_deliver o _ _ (windowStaged_inWindow _ _ _)).trans (delivered_settleExpiry _)

/-! ### What every opening leaves -/

@[simp] theorem windowStaged_rtx (o : Opening) (d : Nat) (w : State) : (windowStaged o d w).rtx = (sendFrame o w).rtx := by
  obtain ⟨_, _, _, _, hidle⟩ := idleStart_frame (sendFrame o w) o d
  obtain ⟨_, _, _, hearly⟩ := earlyStages_frame (idleStart o d (sendFrame o w))
  unfold windowStaged
  rw [hearly, hidle]
  rfl

theorem openWindow_rtx (time : Nat) (j : Taken) (o : Opening) (s : State) :
    (openWindow time j o s).rtx = (sendFrame o (windowStart time j s)).rtx :=
  (delivered_openWindow time j o s).rtx.trans (windowStaged_rtx _ _ _)

theorem openWindow_inWindow (time : Nat) (j : Taken) (o : Opening) (s : State) :
    (openWindow time j o s).inWindow = true :=
  (delivered_openWindow time j o s).inWindow.trans (windowStaged_inWindow _ _ _)

theorem openWindow_pending (time : Nat) (j : Taken) (o : Opening) (s : State) :
    (openWindow time j o s).pending = s.pending :=
  (delivered_openWindow time j o s).pending.trans
    ((windowStaged_pending _ _ _).trans (windowStart_pending s time j))

/-- The receiver after an opening, but for its counters: a STATUS may zero those. -/
theorem openWindow_rrx_counters (time : Nat) (j : Taken) (o : Opening) (s : State) :
    ∃ badFrames missingFrames slips lockLosses, (openWindow time j o s).rrx =
      { j.rrx.windowStart time s.tables.ringset with
        badFrames := badFrames, missingFrames := missingFrames, slips := slips, lockLosses := lockLosses } := by
  obtain ⟨_, _, _, _, h⟩ := (delivered_openWindow time j o s).rrx
  rw [windowStaged_rrx, windowStart_rrx] at h
  exact ⟨_, _, _, _, h⟩

theorem windowStaged_conditioned (o : Opening) (d : Nat) (w : State) :
    (windowStaged o d w).ios.conditioned = (conditionInputs w).ios.conditioned := by
  obtain ⟨_, _, _, _, h⟩ := windowStaged_eq o d w
  obtain ⟨_, _, _, hearly⟩ := earlyStages_frame w
  rw [h, hearly]
  rfl

theorem openWindow_conditioned (time : Nat) (j : Taken) (o : Opening) (s : State) :
    (openWindow time j o s).ios.conditioned = (conditionInputs (windowStart time j s)).ios.conditioned :=
  (delivered_openWindow time j o s).conditioned.trans (windowStaged_conditioned _ _ _)

/-- Out of lock every input channel is conditioned to 0 (R119, R120, R121). -/
theorem conditioned_out_of_lock (h : cellsReach s.rrx.lock = false) (i : Fin 24) :
    (conditionInputs s).ios.conditioned.get i = 0 := by
  have hraw : rawSample s.rrx.lock s.rrx.heldFrame (s.ios.inputs.get i).slot = 0#24 := by
    unfold rawSample
    split <;> simp_all [cellsReach]
  have hcondition (e : InputEntry) (applied : Nat) : conditionSample e applied 0#24 = 0 := by
    simp [conditionSample, invertSample, attenuate]
  show (Regs.zip _ s.ios.inputs s.ios.inApplied).get i = 0
  rw [Regs.get_zip, hraw, hcondition]

/-! ### The frame sent -/

@[simp] theorem windowStart_rtx (time : Nat) (j : Taken) (s : State) : (windowStart time j s).rtx = s.rtx := by
  obtain ⟨_, _, _, _, h⟩ := windowStart_eq s time j
  rw [h, startBlocks_rtx]

theorem queueHead_windowStart (time : Nat) (j : Taken) (s : State) : queueHead (windowStart time j s) = queueHead s := by
  unfold queueHead
  rw [windowStart_ios]
  rfl

theorem windowStart_lock (time : Nat) (j : Taken) (s : State) : (windowStart time j s).rrx.lock = j.rrx.lock := by
  rw [windowStart_rrx]
  rfl

theorem sendFrame_unlocked (h : cellsReach s.rrx.lock = false) (o : Opening) : sendFrame o s = sendOriginated s := by
  unfold sendFrame
  split <;> simp_all [cellsReach]

/-- The frame of an opening in SEARCHING or ACQUIRING (R147, R152). -/
def originated (s : State) : Frame :=
  sealFrame (ownFrame (s.rtx.number + 1) (queueHead s))

theorem openWindow_originated (h : cellsReach j.rrx.lock = false) (o : Opening) (s : State) :
    (openWindow time j o s).rtx = ⟨.originate, s.rtx.number + 1, some (originated s)⟩ := by
  rw [openWindow_rtx, sendFrame_unlocked (by rw [windowStart_lock, h]), originated, ← queueHead_windowStart time j s,
    ← windowStart_rtx time j s]
  rfl

theorem sealFrame_good {f : Frame} (h : f.cut = none) : frameGood (sealFrame f) = true := Tests.seal_good f h

/-- A poisoned frame is bad: its check is the complement of the correct one (R150). -/
theorem poisonFrame_bad (f : Frame) : frameGood (poisonFrame f) = false := by
  have hne : ~~~(correctCheck f) ≠ correctCheck f := fun h => by
    have hbit := congrArg (fun x : BitVec 16 => x.getLsbD 0) h
    simp at hbit
  have hcheck : (~~~(correctCheck f) == correctCheck f) = false := beq_false_of_ne hne
  show (f.cut.isNone && (~~~(correctCheck f) == correctCheck f)) = false
  rw [hcheck, Bool.and_false]

end Sys2Proof.Machine
end

section
/-! An opening whose frame completes no message: the loader's expiry, the shed record, the mark and the cell do not
race, and the window is the staged one with the mark, the shed record and the Command Unit's own work. -/

namespace Sys2Proof.Machine

variable {s : State} {time : Nat} {j : Taken} {o : Opening}

/-- The frame that opens the window completes no message. -/
def Calm (lock : LockState) (o : Opening) (k : Cmu) : Prop :=
  ∀ f, o = .good f → f.kind = 3 → lock = .locked → k.assembly = none

/-- The mark that an opening hands on (R146). -/
def markOf (lock : LockState) (o : Opening) : Bool :=
  match handedFrame lock o with
  | some f => f.mark
  | none => false

theorem handedFrame_iff (lock : LockState) (o : Opening) (f : Frame) :
    handedFrame lock o = some f ↔ lock = .locked ∧ o = .good f := by
  unfold handedFrame
  split <;> simp_all

theorem markOf_iff (lock : LockState) (o : Opening) :
    markOf lock o = true ↔ lock = .locked ∧ ∃ f, o = .good f ∧ f.mark = true := by
  unfold markOf
  cases h : handedFrame lock o with
  | none =>
    refine ⟨fun hm => absurd hm (by decide), fun ⟨hl, f, ho, _⟩ => ?_⟩
    rw [(handedFrame_iff lock o f).2 ⟨hl, ho⟩] at h
    cases h
  | some f =>
    obtain ⟨hl, ho⟩ := (handedFrame_iff lock o f).1 h
    simp [hl, ho]

/-! ### The cells that complete no message -/

/-- A Command Unit that differs from another in its assembly and what counts its messages. -/
def Cmu.SameButAssembly (k l : Cmu) : Prop := ∃ unit assembly words overflow damaged truncated overruns overrun,
  k = { l with
    unit := unit, assembly := assembly, words := words, overflow := overflow, damaged := damaged
    truncated := truncated, overruns := overruns, overrun := overrun }

theorem selectCell_sameButAssembly (w : Word) (s : State) :
    ∃ k, k.SameButAssembly s.cmu ∧ selectCell w s = { s with cmu := k } := by
  unfold selectCell
  rcases discardAssembly_cases s with ⟨_, h⟩ | ⟨_, h⟩ <;> rw [h] <;> (repeat' split) <;>
    exact ⟨_, ⟨_, _, _, _, _, _, _, _, rfl⟩, rfl⟩

theorem wordCell_sameButAssembly (w : Word) (s : State) :
    ∃ k, k.SameButAssembly s.cmu ∧ wordCell w s = { s with cmu := k } := by
  unfold wordCell
  (repeat' split) <;> exact ⟨_, ⟨_, _, _, _, _, _, _, _, rfl⟩, rfl⟩

theorem takeCell_sameButAssembly {kind : BitVec 4} (h : kind = 3 → s.cmu.assembly = none) (p : Word) :
    ∃ k, k.SameButAssembly s.cmu ∧ takeCell kind p s = { s with cmu := k } := by
  rcases takeCell_cases kind p s with ⟨_, e⟩ | ⟨_, e⟩ | ⟨hk, e⟩ | e <;> rw [e]
  · exact selectCell_sameButAssembly p s
  · exact wordCell_sameButAssembly p s
  · rw [endCell_idle (h hk)]
    exact ⟨_, ⟨_, _, _, _, _, _, _, _, rfl⟩, rfl⟩
  · exact ⟨_, ⟨_, _, _, _, _, _, _, _, rfl⟩, rfl⟩

theorem handBad_sameButAssembly (s : State) : ∃ k, k.SameButAssembly s.cmu ∧ handBad s = { s with cmu := k } := by
  unfold handBad
  rw [damageMessage_eq]
  split <;> exact ⟨_, ⟨_, _, _, _, _, _, _, _, rfl⟩, rfl⟩

/-- The state with the mark and the shed record of a window. -/
def marked (mark : Bool) (shed : Nat) (s : State) : State := recordShed shed (if mark then takeMark s else s)

theorem marked_cmu (mark : Bool) (shed : Nat) (s : State) :
    (marked mark shed s).cmu = { s.cmu with shedNote := s.cmu.shedNote || 0 < shed } := by
  cases mark
  · rfl
  · show { (takeMark s).cmu with shedNote := (takeMark s).cmu.shedNote || 0 < shed } = _
    rw [takeMark_cmu_eq]

/-- Without a completed message nothing races: the mark, the shed record, and then the cell or the damage. -/
theorem deliver_calm (h : Calm s.rrx.lock o s.cmu) (shed d : Nat) : deliver o shed d s =
    match handedFrame s.rrx.lock o with
    | some f => takeCell f.kind f.payload (marked (markOf s.rrx.lock o) shed s)
    | none => handBad (marked (markOf s.rrx.lock o) shed s) := by
  cases hf : handedFrame s.rrx.lock o with
  | none =>
    rw [deliver_unhanded hf, markOf, hf]
    rfl
  | some f =>
    obtain ⟨hlock, ho⟩ := (handedFrame_iff _ _ _).1 hf
    obtain ⟨markLate, shedLate, _, hquiet, e⟩ := deliver_handed hf shed d
    obtain ⟨rfl, rfl⟩ := hquiet fun hk => h f ho hk hlock
    rw [e, markOf, hf]
    simp [marked]

theorem deliver_calm_frame (h : Calm s.rrx.lock o s.cmu) (shed d : Nat) :
    ∃ k, k.SameButAssembly (marked (markOf s.rrx.lock o) shed s).cmu ∧
      deliver o shed d s = { marked (markOf s.rrx.lock o) shed s with cmu := k } := by
  rw [deliver_calm h]
  cases hf : handedFrame s.rrx.lock o with
  | none => exact handBad_sameButAssembly _
  | some f =>
    obtain ⟨hlock, ho⟩ := (handedFrame_iff _ _ _).1 hf
    exact takeCell_sameButAssembly (fun hk => by rw [marked_cmu]; exact h f ho hk hlock) _

/-! ### The loader's idle timer -/

theorem idleDue_closed (l : Tld) : idleDue l.closed = false := rfl

theorem idleDue_countIdle (l : Tld) : idleDue l.countIdle = idleReaches l := by
  unfold Tld.countIdle idleReaches
  split <;> simp_all [idleDue]

theorem expireLoad_tld (n : BitVec 8) (s : State) : (expireLoad n s).tld = s.tld.closed := by
  unfold expireLoad
  rw [raiseAt_tld]

theorem idleDue_settleExpiry (s : State) : idleDue (settleExpiry s).tld = false := by
  rcases settleExpiry_cases s with ⟨_, h⟩ | ⟨hdue, h⟩ <;> rw [h]
  · rw [expireLoad_tld]
    rfl
  · exact hdue

theorem settleExpiry_of_not_due (h : idleDue s.tld = false) : settleExpiry s = s := by simp [settleExpiry, h]

theorem idleStart_calm (h : completes o s = false) (d : Nat) :
    idleStart o d s = settleExpiry { s with tld := s.tld.countIdle } := by simp [idleStart, h]

/-! ### The assembly up to the deliveries -/

theorem forwardedCell_assembly (f : Frame) (k : Cmu) : (forwardedCell f k).2.assembly = k.assembly := by
  unfold forwardedCell
  rcases offerCell_cases k with ⟨_, h⟩ | ⟨_, _, h⟩ | ⟨_, _, _, _, h⟩ <;> rw [h] <;> split <;> rfl

theorem sendFrame_assembly (o : Opening) (s : State) : (sendFrame o s).cmu.assembly = s.cmu.assembly := by
  have hgood (f : Frame) : (forwardGood f s).cmu.assembly = s.cmu.assembly := forwardedCell_assembly f s.cmu
  unfold sendFrame
  split <;> simp [hgood, sendOriginated, sendStandIn, forwardBad]

theorem windowStart_assembly (h : s.cmu.assembly = none) (time : Nat) (j : Taken) :
    (windowStart time j s).cmu.assembly = none := by
  obtain ⟨_, _, _, _, hfirst⟩ := expireFirst_frame { s with draws := s.draws + 4 } s.draws
  rw [windowStart, startBlocks_cmu, hfirst]
  unfold takeEvent
  dsimp only
  split <;> split <;> simp [abandonTraffic_eq, Cmu.abandoned, raise_eq, Cmu.raised, h]

theorem completes_calm (h : Calm s.rrx.lock o s.cmu) : completes o s = false := by
  unfold completes
  cases hf : handedFrame s.rrx.lock o with
  | none => rfl
  | some f =>
    obtain ⟨hlock, ho⟩ := (handedFrame_iff _ _ _).1 hf
    show racing f s.cmu = false
    unfold racing
    by_cases hk : f.kind = 3
    · rw [h f ho hk hlock]
      exact Bool.and_false _
    · simp [show ¬f.kind = 3#4 from hk]

/-- The state right after the window start, its frame sent. -/
theorem calm_sent (h : Calm j.rrx.lock o s.cmu) (time : Nat) :
    Calm (sendFrame o (windowStart time j s)).rrx.lock o (sendFrame o (windowStart time j s)).cmu := by
  intro f ho hk hlock
  obtain ⟨_, _, hsend⟩ := sendFrame_frame (windowStart time j s) o
  rw [hsend] at hlock
  rw [sendFrame_assembly]
  exact windowStart_assembly (h f ho hk ((windowStart_lock time j s).symm.trans hlock)) time j

/-- Without a completed message the idle timer's expiry comes at the window start. -/
theorem windowStaged_settled (h : Calm j.rrx.lock o s.cmu) (time d : Nat) :
    idleDue (windowStaged o d (windowStart time j s)).tld = false := by
  have hidle := idleStart_calm (completes_calm (calm_sent h time)) d
  obtain ⟨_, _, _, hearly⟩ := earlyStages_frame (idleStart o d (sendFrame o (windowStart time j s)))
  unfold windowStaged
  rw [hearly]
  show idleDue (idleStart o d (sendFrame o (windowStart time j s))).tld = false
  rw [hidle]
  exact idleDue_settleExpiry _

theorem idleStart_assembly (o : Opening) (d : Nat) (s : State) : (idleStart o d s).cmu.assembly = s.cmu.assembly := by
  obtain ⟨_, _, _, _, h⟩ := idleStart_frame s o d
  rw [h]

theorem calm_staged (h : Calm j.rrx.lock o s.cmu) (time d : Nat) :
    Calm (windowStaged o d (windowStart time j s)).rrx.lock o (windowStaged o d (windowStart time j s)).cmu := by
  intro f ho hk hlock
  rw [windowStaged_rrx, windowStart_lock] at hlock
  rw [windowStaged_cmu, idleStart_assembly, sendFrame_assembly]
  exact windowStart_assembly (h f ho hk hlock) time j

/-- The taps that a window sheds. -/
def shedTaps (time : Nat) (j : Taken) (s : State) : Nat := (runTaps (earlyStages (windowStart time j s))).shed

theorem marked_tld (mark : Bool) (shed : Nat) (s : State) : (marked mark shed s).tld = s.tld := by
  cases mark
  · rfl
  · obtain ⟨_, _, h⟩ := takeMark_frame (s := s)
    show (takeMark s).tld = s.tld
    rw [h]

/-- The window of an opening whose frame completes no message. -/
theorem openWindow_calm (h : Calm j.rrx.lock o s.cmu) (time : Nat) :
    ∃ k, k.SameButAssembly
        (marked (markOf j.rrx.lock o) (shedTaps time j s) (windowStaged o s.draws (windowStart time j s))).cmu ∧
      openWindow time j o s = { marked (markOf j.rrx.lock o) (shedTaps time j s)
        (windowStaged o s.draws (windowStart time j s)) with cmu := k } := by
  obtain ⟨k, hk, e⟩ := deliver_calm_frame (calm_staged h time s.draws) (shedTaps time j s) s.draws
  have hlock : (windowStaged o s.draws (windowStart time j s)).rrx.lock = j.rrx.lock := by
    rw [windowStaged_rrx, windowStart_lock]
  rw [hlock] at hk e
  refine ⟨k, hk, ?_⟩
  rw [openWindow_eq, ← shedTaps, e]
  exact settleExpiry_of_not_due ((congrArg idleDue (marked_tld _ (shedTaps time j s) _)).trans (windowStaged_settled h time s.draws))

end Sys2Proof.Machine
end

section
/-! Openings whose frame is not handed on: the receiver, the tables and the Command Unit after the window start, and
the frames that are sent for a bad or missing one (R150 to R152). -/

namespace Sys2Proof.Machine

variable {s : State} {time : Nat} {j : Taken} {o : Opening}

/-! ### The receiver and the tables -/

theorem marked_rrx (mark : Bool) (shed : Nat) (s : State) : (marked mark shed s).rrx = s.rrx := by
  cases mark
  · rfl
  · obtain ⟨_, _, h⟩ := takeMark_frame (s := s)
    show (takeMark s).rrx = s.rrx
    rw [h]

theorem marked_tables (mark : Bool) (shed : Nat) (s : State) : (marked mark shed s).tables = s.tables := by
  cases mark
  · rfl
  · obtain ⟨_, _, h⟩ := takeMark_frame (s := s)
    show (takeMark s).tables = s.tables
    rw [h]

theorem openWindow_rrx (h : Calm j.rrx.lock o s.cmu) :
    (openWindow time j o s).rrx = j.rrx.windowStart time s.tables.ringset := by
  obtain ⟨_, _, e⟩ := openWindow_calm h time
  rw [e]
  exact (marked_rrx _ (shedTaps time j s) _).trans ((windowStaged_rrx _ _ _).trans (windowStart_rrx _ _ _))

theorem openWindow_tables (h : Calm j.rrx.lock o s.cmu) : (openWindow time j o s).tables = s.tables := by
  obtain ⟨_, _, e⟩ := openWindow_calm h time
  rw [e]
  exact (marked_tables _ (shedTaps time j s) _).trans ((windowStaged_tables _ _ _).trans (windowStart_tables _ _ _))

/-! ### The Command Unit -/

/-- An opening whose frame brings no cell: the part is out of lock, or the frame is bad or missing. -/
def Unhanded (lock : LockState) (o : Opening) : Prop := cellsReach lock = false ∨ ∀ f, o ≠ .good f

theorem Unhanded.calm {lock : LockState} (h : Unhanded lock o) (k : Cmu) : Calm lock o k := by
  intro f ho _ hlock
  rcases h with h | h
  · rw [hlock] at h
    cases h
  · exact absurd ho (h f)

theorem Unhanded.handedFrame {lock : LockState} (h : Unhanded lock o) : handedFrame lock o = none := by
  cases hf : Machine.handedFrame lock o with
  | none => rfl
  | some f =>
    obtain ⟨hlock, ho⟩ := (handedFrame_iff _ _ _).1 hf
    rcases h with h | h
    · rw [hlock] at h
      cases h
    · exact absurd ho (h f)

theorem sendFrame_unhanded_cmu (h : Unhanded s.rrx.lock o) : (sendFrame o s).cmu = s.cmu := by
  rcases h with h | h
  · rw [sendFrame_unlocked h]
    rfl
  · unfold sendFrame
    split <;> simp_all [sendOriginated, sendStandIn, forwardBad]

theorem handBad_recordShed_tld (shed : Nat) (s : State) : (handBad (recordShed shed s)).tld = s.tld := by
  obtain ⟨_, e⟩ := handBad_frame (recordShed shed s)
  rw [e]
  rfl

theorem openWindow_unhanded (h : Unhanded j.rrx.lock o) (time : Nat) : openWindow time j o s =
    handBad (recordShed (shedTaps time j s) (windowStaged o s.draws (windowStart time j s))) := by
  have hlock : (windowStaged o s.draws (windowStart time j s)).rrx.lock = j.rrx.lock := by
    rw [windowStaged_rrx, windowStart_lock]
  have hnone : handedFrame (windowStaged o s.draws (windowStart time j s)).rrx.lock o = none := by
    rw [hlock, h.handedFrame]
  rw [openWindow_eq, ← shedTaps, deliver_unhanded hnone]
  refine settleExpiry_of_not_due ?_
  rw [handBad_recordShed_tld]
  exact windowStaged_settled (h.calm s.cmu) time s.draws

/-- A Command Unit but for its fault record. -/
def Cmu.withFaults (k : Cmu) (fault : Option FaultNote) (laterCount : Nat) : Cmu :=
  { k with fault := fault, laterCount := laterCount }

theorem taken_withFaults (k : Cmu) (fault : Option FaultNote) (laterCount : Nat) (j : Taken) (n : BitVec 8) :
    ∃ f l, (k.withFaults fault laterCount).taken j n = (k.taken j n).withFaults f l := by
  cases hl : j.lost <;> cases hs : j.searching <;> exact ⟨_, _, by
    simp only [Cmu.taken, hl, hs, Bool.false_eq_true, if_false, if_true]
    rfl⟩

theorem expireFirst_never (h : idleReaches s.tld = false) (d : Nat) : expireFirst d s = s := by simp [expireFirst, h]

theorem windowStart_cmu (time : Nat) (j : Taken) (s : State) : ∃ f l, (windowStart time j s).cmu =
      { (s.cmu.taken j s.rtx.number).withFaults f l with restartPending := false } ∧
    (idleReaches s.tld = false →
      (windowStart time j s).cmu = { s.cmu.taken j s.rtx.number with restartPending := false } ∧
      (windowStart time j s).tld = s.tld) := by
  obtain ⟨_, fault, laterCount, _, hfirst⟩ := expireFirst_frame { s with draws := s.draws + 4 } s.draws
  obtain ⟨f, l, h⟩ := taken_withFaults s.cmu fault laterCount j s.rtx.number
  refine ⟨f, l, ?_, fun hidle => ?_⟩
  · rw [windowStart, startBlocks_cmu, takeEvent_eq, hfirst, ← h]
    rfl
  · rw [windowStart, startBlocks_cmu, startBlocks_tld, takeEvent_eq,
      expireFirst_never (s := { s with draws := s.draws + 4 }) hidle]
    exact ⟨rfl, rfl⟩

/-- At a window start where the idle timer does not reach its limit, it counts and that is all. -/
theorem idleStart_counts (h : idleReaches s.tld = false) (o : Opening) (d : Nat) :
    idleStart o d s = { s with tld := s.tld.countIdle } := by
  have hdue : idleDue s.tld.countIdle = false := (idleDue_countIdle _).trans h
  simp only [idleStart, hdue, Bool.false_and, Bool.false_eq_true, if_false]
  exact settleExpiry_of_not_due hdue

/-- The Command Unit at the end of the tap pass. -/
theorem windowStaged_cmu_unhanded (h : Unhanded j.rrx.lock o) (time d : Nat) : ∃ f l,
    (windowStaged o d (windowStart time j s)).cmu =
      { (s.cmu.taken j s.rtx.number).withFaults f l with restartPending := false } ∧
    (idleReaches s.tld = false → (windowStaged o d (windowStart time j s)).cmu =
      { s.cmu.taken j s.rtx.number with restartPending := false }) := by
  obtain ⟨f, l, hstart, hexact⟩ := windowStart_cmu time j s
  have hsend : (sendFrame o (windowStart time j s)).cmu = (windowStart time j s).cmu :=
    sendFrame_unhanded_cmu (by rwa [windowStart_lock])
  obtain ⟨_, f', l', _, hidle⟩ := idleStart_frame (sendFrame o (windowStart time j s)) o d
  refine ⟨f', l', ?_, fun hnever => ?_⟩
  · rw [windowStaged_cmu, hidle, hsend, hstart]
    rfl
  · obtain ⟨hcmu, htld⟩ := hexact hnever
    obtain ⟨_, _, hframe⟩ := sendFrame_frame (windowStart time j s) o
    have htld' : (sendFrame o (windowStart time j s)).tld = s.tld := by rw [hframe, htld]
    rw [windowStaged_cmu, idleStart_counts (by rwa [htld']), hsend, hcmu]

/-- The Command Unit that a failing frame reaches, the shed record taken (R64, R145, R158). -/
theorem handBad_recordShed_cmu (shed : Nat) (s : State) : (handBad (recordShed shed s)).cmu =
    { (if cellsReach s.rrx.lock then s.cmu.damagedNow else s.cmu) with shedNote := s.cmu.shedNote || 0 < shed } := by
  cases h : cellsReach s.rrx.lock with
  | false =>
    rw [handBad_lost (s := recordShed shed s) h]
    rfl
  | true =>
    rw [handBad_following (s := recordShed shed s) h]
    rfl

/-- The Command Unit after an opening whose frame is not handed on: the event's notice, and in LOCKED and FLYWHEEL the
damage of the message in progress. -/
theorem openWindow_cmu (h : Unhanded j.rrx.lock o) (time : Nat) : ∃ f l,
    (openWindow time j o s).cmu = { (if cellsReach j.rrx.lock then (s.cmu.taken j s.rtx.number).damagedNow
        else s.cmu.taken j s.rtx.number) with
      fault := f, laterCount := l, restartPending := false
      shedNote := (s.cmu.taken j s.rtx.number).shedNote || 0 < shedTaps time j s } ∧
    (idleReaches s.tld = false →
      f = (s.cmu.taken j s.rtx.number).fault ∧ l = (s.cmu.taken j s.rtx.number).laterCount) := by
  obtain ⟨f, l, hstaged, hexact⟩ := windowStaged_cmu_unhanded (s := s) h time s.draws
  refine ⟨f, l, ?_, fun hnever => ?_⟩
  · rw [openWindow_unhanded h, handBad_recordShed_cmu, windowStaged_rrx, windowStart_lock, hstaged]
    cases cellsReach j.rrx.lock <;> rfl
  · have hsame := hstaged.symm.trans (hexact hnever)
    exact ⟨congrArg Cmu.fault hsame, congrArg Cmu.laterCount hsame⟩

/-! ### The frames sent for a bad or missing one -/

theorem sendFrame_bad (h : cellsReach s.rrx.lock = true) (f : Frame) : sendFrame (.bad f) s = forwardBad f s := by
  unfold sendFrame
  split <;> simp_all [cellsReach]

theorem sendFrame_missing (h : cellsReach s.rrx.lock = true) : sendFrame .missing s = sendStandIn s := by
  unfold sendFrame
  split <;> simp_all [cellsReach]

theorem openWindow_bad_rtx (h : cellsReach j.rrx.lock = true) (f : Frame) (time : Nat) (s : State) :
    (openWindow time j (.bad f) s).rtx = ⟨.follow, s.rtx.number + 1,
      some (poisonFrame { f with slots := placeEntry (queueHead s) f.slots })⟩ := by
  rw [openWindow_rtx, sendFrame_bad (by rw [windowStart_lock, h]), ← queueHead_windowStart time j s,
    ← windowStart_rtx time j s]
  rfl

theorem openWindow_missing_rtx (h : cellsReach j.rrx.lock = true) (time : Nat) (s : State) :
    (openWindow time j .missing s).rtx = ⟨.follow, s.rtx.number + 1,
      some (poisonFrame (ownFrame (s.rtx.number + 1) (queueHead s)))⟩ := by
  rw [openWindow_rtx, sendFrame_missing (by rw [windowStart_lock, h]), ← queueHead_windowStart time j s,
    ← windowStart_rtx time j s]
  rfl

end Sys2Proof.Machine
end

section
/-! The events of the ring that open a window whose frame is not handed on (R138 to R143, R150 to R152). -/

namespace Sys2Proof.Machine

variable {s : State} {time : Nat} {j : Taken} {o : Opening}

/-! ### After the window that ends -/

theorem endWindow_tables (s : State) : (endWindow s).tables = { s.tables with results := (endWindow s).tables.results } := by
  obtain ⟨_, _, _, _, _, _, _, _, _, _, _, _, _, _, h⟩ := endWindow_frame s
  rw [h]

theorem endWindow_cmu (s : State) : (endWindow s).cmu =
    { s.cmu with fault := (endWindow s).cmu.fault, laterCount := (endWindow s).cmu.laterCount } := by
  obtain ⟨_, _, _, _, _, _, _, _, _, _, _, _, _, _, h⟩ := endWindow_frame s
  rw [h]

@[simp] theorem endWindow_ringset (s : State) : (endWindow s).tables.ringset = s.tables.ringset := by
  rw [endWindow_tables]

theorem opened_tables (h : Calm j.rrx.lock o s.cmu) : (openWindow time j o (endWindow s)).tables =
    { s.tables with results := (openWindow time j o (endWindow s)).tables.results } := by
  have hcalm : Calm j.rrx.lock o (endWindow s).cmu := fun f ho hk hl => by
    rw [endWindow_cmu]
    exact h f ho hk hl
  rw [openWindow_tables hcalm]
  exact endWindow_tables s

theorem opened_pending (s : State) : (openWindow time j o (endWindow s)).pending = s.pending :=
  (openWindow_pending _ _ _ _).trans (endWindow_pending s)

theorem opened_rrx (h : Unhanded j.rrx.lock o) (s : State) :
    (openWindow time j o (endWindow s)).rrx = j.rrx.windowStart time s.tables.ringset := by
  rw [openWindow_rrx (h.calm _), endWindow_ringset]

theorem opened_originated (h : cellsReach j.rrx.lock = false) (s : State) :
    (openWindow time j o (endWindow s)).rtx = ⟨.originate, s.rtx.number + 1, some (sealFrame
      (ownFrame (s.rtx.number + 1) (queueHead (endWindow s))))⟩ := by
  rw [openWindow_originated h, originated, endWindow_rtx]

/-! ### Bad and missing frames below the tolerance -/

/-- Settles O24: the window of a tolerated bad frame, and its poisoned frame. -/
theorem badFrameIsPoisoned : Obligations.BadFrameIsPoisoned := by
  intro time f s hrows hbad hlate htol
  have hfollow := Tolerated.following htol
  have hexec : exec (.frameArrival time f) s = .next (openWindow time
      ⟨s.rrx.countBad.flywheel true, false, false, some (.bad f)⟩ (.bad f) (endWindow s)) := by
    rw [exec_frameArrival, takeFrame_bad hfollow hbad hlate, takeFailing_tolerated (show Tolerated s.rrx.countBad from htol)]
    exact ringOutcome_opens rfl hrows
  refine ⟨_, poisonFrame { f with slots := placeEntry (queueHead (endWindow s)) f.slots }, hexec, ?_⟩
  generalize hj : (⟨s.rrx.countBad.flywheel true, false, false, some (.bad f)⟩ : Taken) = j
  have hlock : j.rrx.lock = .flywheel := by rw [← hj]; rfl
  have hun : Unhanded j.rrx.lock (.bad f) := .inr fun _ h => by cases h
  have hrtx := openWindow_bad_rtx (by rw [hlock]; rfl) f time (endWindow s) (j := j)
  have hrrx := opened_rrx (time := time) hun s
  obtain ⟨fault, laterCount, hcmu, _⟩ := openWindow_cmu (s := endWindow s) hun time
  rw [taken_kept _ _ (by rw [← hj]) (by rw [← hj]), endWindow_cmu, hlock] at hcmu
  rw [hrtx, hrrx, hcmu]
  subst hj
  refine ⟨rfl, rfl, rfl, rfl, rfl, rfl, rfl, rfl, openWindow_inWindow _ _ _ _, by rw [endWindow_rtx], rfl,
    poisonFrame_bad _, rfl, rfl, rfl, rfl, rfl, rfl, rfl, rfl, rfl, rfl, rfl, opened_tables (hun.calm _),
    opened_pending s⟩

theorem watchTime_following (h : s.rrx.lock = .locked ∨ s.rrx.lock = .flywheel) :
    watchTime s.rrx = s.rrx.watch := if_pos (cellsReach_following h)

theorem localTime_out_of_lock (h : s.rrx.lock = .searching ∨ s.rrx.lock = .acquiring) :
    localTime s.rrx = s.rrx.localTimer := by
  rcases h with h | h <;> simp [localTime, h, cellsReach]

/-- Settles O29: the window of a tolerated missing frame, and its stand-in. -/
theorem watchExpirySendsAStandIn : Obligations.WatchExpirySendsAStandIn := by
  intro time s hrows hwatch htol
  have hfollow := Tolerated.following htol
  have hexec : exec .watchExpiry s = .next (openWindow time
      ⟨{ s.rrx with missingFrames := saturate s.rrx.missingFrames 1 }.flywheel true, false, false, some .missing⟩
      .missing (endWindow s)) := by
    rw [exec_watchExpiry ((watchTime_following hfollow).trans hwatch), Rrx.takeMissing, takeFailing_tolerated
      (show Tolerated { s.rrx with missingFrames := saturate s.rrx.missingFrames 1 } from htol)]
    exact ringOutcome_opens rfl hrows
  refine ⟨_, poisonFrame (ownFrame (s.rtx.number + 1) (queueHead (endWindow s))), hexec, ?_⟩
  generalize hj : (⟨_, false, false, some .missing⟩ : Taken) = j
  have hlock : j.rrx.lock = .flywheel := by rw [← hj]; rfl
  have hun : Unhanded j.rrx.lock .missing := .inr fun _ h => by cases h
  have hrtx := openWindow_missing_rtx (by rw [hlock]; rfl) time (endWindow s) (j := j)
  have hrrx := opened_rrx (time := time) hun s
  obtain ⟨fault, laterCount, hcmu, _⟩ := openWindow_cmu (s := endWindow s) hun time
  rw [taken_kept _ _ (by rw [← hj]) (by rw [← hj]), endWindow_cmu, hlock] at hcmu
  rw [hrtx, hrrx, hcmu, endWindow_rtx]
  subst hj
  exact ⟨rfl, rfl, rfl, rfl, rfl, rfl, rfl, rfl, openWindow_inWindow _ _ _ _, rfl, rfl, rfl,
    poisonFrame_bad _, rfl, rfl, rfl, rfl, rfl, rfl, rfl, rfl, rfl, opened_tables (hun.calm _), opened_pending s⟩

/-! ### Out of lock -/

theorem opened_conditioned (h : cellsReach j.rrx.lock = false) (s : State) (i : Fin 24) :
    (openWindow time j o (endWindow s)).ios.conditioned.get i = 0 := by
  rw [openWindow_conditioned]
  exact conditioned_out_of_lock (by rw [windowStart_lock, h]) i

/-- Settles O30: the window of the local frame timer's expiry, and its originated frame. -/
theorem localTimerExpiryOriginates : Obligations.LocalTimerExpiryOriginates := by
  intro time s hrows hlock htimer
  have hexec : exec .localFrameTimerExpiry s = .next (openWindow time s.rrx.takeLocal .localTimer (endWindow s)) := by
    rw [exec_localFrameTimerExpiry ((localTime_out_of_lock hlock).trans htimer)]
    exact ringOutcome_opens rfl hrows
  have hout : cellsReach s.rrx.takeLocal.rrx.lock = false := rfl
  have hun : Unhanded s.rrx.takeLocal.rrx.lock .localTimer := .inl hout
  refine ⟨_, sealFrame (ownFrame (s.rtx.number + 1) (queueHead (endWindow s))), hexec, ?_⟩
  rw [opened_rrx hun, opened_originated hout]
  exact ⟨rfl, rfl, rfl, rfl, rfl, rfl, openWindow_inWindow _ _ _ _, rfl, rfl, rfl, sealFrame_good rfl, rfl, rfl, rfl,
    rfl, rfl, rfl, rfl, opened_conditioned hout s, opened_tables (hun.calm _), opened_pending s⟩

/-! ### Lock lost -/

/-- The row that brings a failing frame to the tolerance is the opening of its window. -/
theorem exec_exhausted {event : Instr} (hrows : rowsExist s = true) (h : Exhausted s.rrx)
    (hevent : (∃ f, event = .frameArrival time f ∧ frameGood f = false ∧ s.rrx.lastStart + 461 ≤ time) ∨
      (event = .watchExpiry ∧ s.rrx.watch = some time)) :
    ∃ r o, r.lock = s.rrx.lock ∧ r.period = s.rrx.period ∧ r.lockLosses = s.rrx.lockLosses ∧
      exec event s = .next (openWindow time ⟨(Rrx.flywheel r true).lose, true, true, some o⟩ o (endWindow s)) := by
  rcases hevent with ⟨f, rfl, hbad, hlate⟩ | ⟨rfl, hwatch⟩
  · refine ⟨s.rrx.countBad, .bad f, rfl, rfl, rfl, ?_⟩
    rw [exec_frameArrival, takeFrame_bad h.following hbad hlate, takeFailing_exhausted (show Exhausted s.rrx.countBad from h)]
    exact ringOutcome_opens rfl hrows
  · refine ⟨{ s.rrx with missingFrames := saturate s.rrx.missingFrames 1 }, .missing, rfl, rfl, rfl, ?_⟩
    rw [exec_watchExpiry ((watchTime_following h.following).trans hwatch), Rrx.takeMissing, takeFailing_exhausted
      (show Exhausted { s.rrx with missingFrames := saturate s.rrx.missingFrames 1 } from h)]
    exact ringOutcome_opens rfl hrows

/-- Settles O26: the window in which lock is lost. -/
theorem lockIsLostAtTheTolerance : Obligations.LockIsLostAtTheTolerance := by
  intro event time s hrows hex hevent e
  obtain ⟨r, o, _, hperiod, hlosses, hexec⟩ := exec_exhausted hrows (Or.symm hex) hevent
  refine ⟨_, sealFrame (ownFrame (s.rtx.number + 1) (queueHead e)), hexec, ?_⟩
  generalize hj : (⟨(Rrx.flywheel r true).lose, true, true, some o⟩ : Taken) = j
  have hlock : j.rrx.lock = .searching := by rw [← hj]; rfl
  have hout : cellsReach j.rrx.lock = false := by rw [hlock]; rfl
  have hun : Unhanded j.rrx.lock o := .inl hout
  obtain ⟨fault, laterCount, hcmu, hexact⟩ := openWindow_cmu (s := e) hun time
  rw [taken_lost _ _ (by rw [← hj]) (by rw [← hj]), hlock] at hcmu
  rw [taken_lost _ _ (by rw [← hj]) (by rw [← hj]), endWindow_tld, endWindow_rtx] at hexact
  have hconditioned := opened_conditioned (time := time) (o := o) hout s
  have htables := opened_tables (time := time) (hun.calm s.cmu)
  rw [opened_originated hout, opened_rrx hun, hcmu]
  subst hj
  refine ⟨rfl, rfl, rfl, rfl, ?_, rfl, ?_, fun hidle => ?_, rfl, rfl, rfl, rfl, ?_, ?_, openWindow_inWindow _ _ _ _,
    rfl, rfl, rfl, sealFrame_good rfl, rfl, rfl, rfl, rfl, rfl, rfl, rfl, hconditioned, htables, opened_pending s⟩
  · show some (time + r.period) = _
    rw [hperiod]
  · show saturate r.lockLosses 1 = _
    rw [hlosses]
    rfl
  · obtain ⟨rfl, rfl⟩ := hexact hidle
    refine ⟨fun hnone => ?_, fun hsome => ?_⟩
    · simp [Cmu.abandoned, Cmu.raised, show e.cmu.fault = none from hnone]
    · simp [Cmu.abandoned, Cmu.raised, show e.cmu.fault.isSome = true from hsome]
  · show (e.cmu.overrun || overrunHeld e.cmu) = _
    rw [overrunHeld_eq, show e.cmu = _ from endWindow_cmu s]
  · show (if e.cmu.assembly.isSome then saturate e.cmu.truncated 1 else e.cmu.truncated) = _
    rw [show e.cmu = _ from endWindow_cmu s]
    rfl

/-! ### The acquisition -/

theorem tooSoon_iff (r : Rrx) (time : Nat) : tooSoon r time = true ↔ time < r.lastStart + 461 := by simp [tooSoon]

theorem not_tooSoon {r : Rrx} (h : r.lastStart + 461 ≤ time) : tooSoon r time = false := by
  simpa [tooSoon] using h

theorem takeSearching_bad {r : Rrx} (hlock : r.lock = .searching) {f : Frame} (hbad : frameGood f = false) :
    r.takeFrame time f = Taken.quiet r.countBad := by
  simp [Rrx.takeFrame, hlock, Rrx.takeSearching, hbad]

/-- The receiver that begins an acquisition (R139). -/
def Rrx.begun (r : Rrx) (time : Nat) (f : Frame) : Rrx :=
  { r with lock := .acquiring, goodCount := 1, prevNumber := f.number, localTimer := some (time + 564) }

theorem takeSearching_soon {r : Rrx} (hlock : r.lock = .searching) {f : Frame} (hgood : frameGood f = true)
    (hsoon : time < r.lastStart + 461) : r.takeFrame time f = Taken.quiet (r.begun time f) := by
  simp [Rrx.takeFrame, hlock, Rrx.takeSearching, hgood, (tooSoon_iff r time).2 hsoon, Rrx.begun]

theorem takeSearching_late {r : Rrx} (hlock : r.lock = .searching) {f : Frame} (hgood : frameGood f = true)
    (hlate : r.lastStart + 461 ≤ time) : r.takeFrame time f = Taken.opens (r.begun time f) (.good f) := by
  simp [Rrx.takeFrame, hlock, Rrx.takeSearching, hgood, not_tooSoon hlate, Rrx.begun]

/-- Settles O27: a frame in SEARCHING is counted, or begins an acquisition, with a window where none is too near. -/
theorem searchingTakesFramesByCheck : Obligations.SearchingTakesFramesByCheck := by
  intro time f s hlock
  have hout : cellsReach s.rrx.lock = false := by rw [hlock]; rfl
  refine ⟨fun hbad => ?_, fun hgood hsoon => ?_, fun hgood hlate hrows => ?_⟩
  · rw [exec_frameArrival, takeSearching_bad hlock hbad, ringOutcome_quiet rfl, handBad_lost hout, takeEvent_eq,
      taken_kept _ _ rfl rfl]
    rfl
  · rw [exec_frameArrival, takeSearching_soon hlock hgood hsoon, ringOutcome_quiet rfl, handBad_lost hout, takeEvent_eq,
      taken_kept _ _ rfl rfl]
    rfl
  · have hexec : exec (.frameArrival time f) s =
        .next (openWindow time (Taken.opens (s.rrx.begun time f) (.good f)) (.good f) (endWindow s)) := by
      rw [exec_frameArrival, takeSearching_late hlock hgood hlate]
      exact ringOutcome_opens rfl hrows
    refine ⟨_, sealFrame (ownFrame (s.rtx.number + 1) (queueHead (endWindow s))), hexec, ?_⟩
    rw [opened_rrx (.inl rfl), opened_originated rfl]
    exact ⟨rfl, rfl, rfl, rfl, rfl, rfl, openWindow_inWindow _ _ _ _, rfl, rfl, rfl, sealFrame_good rfl, rfl, rfl, rfl⟩

theorem takeAcquiring_counted {r : Rrx} (hlock : r.lock = .acquiring) {f : Frame} (hgood : frameGood f = true)
    (hlate : r.lastStart + 461 ≤ time) (hnumber : f.number = r.prevNumber + 1) :
    r.takeFrame time f = Taken.opens (r.takeCounted f) (.good f) := by
  simp [Rrx.takeFrame, hlock, Rrx.takeAcquiring, hgood, not_tooSoon hlate, hnumber]

theorem takeAcquiring_otherNumber {r : Rrx} (hlock : r.lock = .acquiring) {f : Frame} (hgood : frameGood f = true)
    (hlate : r.lastStart + 461 ≤ time) (hnumber : f.number ≠ r.prevNumber + 1) : r.takeFrame time f =
      ⟨{ r with lock := .searching, goodCount := 0, prevNumber := f.number }, false, true, none⟩ := by
  have hnumber : ¬f.number = r.prevNumber + 1#8 := hnumber
  simp [Rrx.takeFrame, hlock, Rrx.takeAcquiring, hgood, not_tooSoon hlate, hnumber]

theorem takeAcquiring_failed {r : Rrx} (hlock : r.lock = .acquiring) {f : Frame}
    (h : frameGood f = false ∨ time < r.lastStart + 461) : r.takeFrame time f =
      ⟨{ r.countBad with lock := .searching, goodCount := 0 }, false, true, none⟩ := by
  have hfail : (frameGood f && !tooSoon r time) = false := by
    rcases h with h | h
    · rw [h, Bool.false_and]
    · rw [(tooSoon_iff r time).2 h, Bool.not_true, Bool.and_false]
  simp [Rrx.takeFrame, hlock, Rrx.takeAcquiring, hfail]

theorem sendFrame_good (h : cellsReach s.rrx.lock = true) (f : Frame) : sendFrame (.good f) s = forwardGood f s := by
  unfold sendFrame
  split <;> simp_all [cellsReach]

/-- The frame that forwards a good frame, by the cell it carries (R148, R149). -/
def forwarded (f : Frame) (e : QueueEntry) (c : Cell) : Frame :=
  sealFrame { f with slots := placeEntry e f.slots, kind := c.kind, payload := c.payload }

theorem openWindow_good_rtx (h : cellsReach j.rrx.lock = true) (f : Frame) (time : Nat) (s : State) :
    ∃ c, (openWindow time j (.good f) s).rtx = ⟨.follow, f.number, some (forwarded f (queueHead s) c)⟩ ∧
      c = (forwardedCell f (windowStart time j s).cmu).1 := by
  refine ⟨_, ?_, rfl⟩
  rw [openWindow_rtx, sendFrame_good (by rw [windowStart_lock, h]), ← queueHead_windowStart time j s]
  rfl

/-- A good frame was received whole. -/
theorem whole_of_good {f : Frame} (h : frameGood f = true) : f.cut = none := by
  unfold frameGood at h
  cases hcut : f.cut with
  | none => rfl
  | some n => simp [hcut] at h

theorem forwarded_good {f : Frame} (h : frameGood f = true) (e : QueueEntry) (c : Cell) :
    frameGood (forwarded f e c) = true :=
  sealFrame_good (show f.cut = none from whole_of_good h)

/-- Settles O28: a counted frame goes on or locks, and any other leads back to SEARCHING. -/
theorem acquiringCountsFrames : Obligations.AcquiringCountsFrames := by
  intro time f s hlock
  have hout : cellsReach s.rrx.lock = false := by rw [hlock]; rfl
  refine ⟨fun hgood hlate hnumber hrows => ?_, fun hgood hlate hnumber => ?_, fun hfail => ?_⟩
  · have hexec : exec (.frameArrival time f) s =
        .next (openWindow time (Taken.opens (s.rrx.takeCounted f) (.good f)) (.good f) (endWindow s)) := by
      rw [exec_frameArrival, takeAcquiring_counted hlock hgood hlate hnumber]
      exact ringOutcome_opens rfl hrows
    obtain ⟨_, _, _, _, hrrx⟩ := openWindow_rrx_counters time (Taken.opens (s.rrx.takeCounted f) (.good f)) (.good f)
      (endWindow s)
    rcases Nat.lt_or_ge s.rrx.nextGood s.rrx.ringset.acquire with hmore | hdone
    · have hcounted : s.rrx.takeCounted f = { s.rrx with goodCount := s.rrx.nextGood, prevNumber := f.number } :=
        if_neg (Nat.not_le.2 hmore)
      rw [hcounted] at hexec hrrx
      refine ⟨_, sealFrame (ownFrame (s.rtx.number + 1) (queueHead (endWindow s))), hexec, ?_⟩
      rw [hrrx, opened_originated hout]
      exact ⟨rfl, rfl, rfl, rfl, openWindow_inWindow _ _ _ _, rfl, sealFrame_good rfl,
        fun _ => ⟨hlock, by simp [Rrx.windowStart, Taken.opens, hlock], rfl, rfl, rfl⟩,
        fun h => absurd h (Nat.not_le.2 hmore)⟩
    · have hcounted : s.rrx.takeCounted f = { s.rrx with
          goodCount := s.rrx.nextGood, prevNumber := f.number, lock := .locked, badCount := 0, firstPending := true
          heldFrame := f.slots } := if_pos hdone
      obtain ⟨c, hrtx, _⟩ := openWindow_good_rtx (j := Taken.opens (s.rrx.takeCounted f) (.good f))
        (by rw [hcounted]; rfl) f time (endWindow s)
      rw [hcounted] at hexec hrrx hrtx
      refine ⟨_, forwarded f (queueHead (endWindow s)) c, hexec, ?_⟩
      rw [hrrx, hrtx]
      exact ⟨rfl, rfl, rfl, rfl, openWindow_inWindow _ _ _ _, rfl, forwarded_good hgood _ _,
        fun h => absurd h (Nat.not_lt.2 hdone), fun _ => ⟨rfl, rfl, rfl, rfl, rfl, rfl, rfl, rfl, rfl⟩⟩
  · rw [exec_frameArrival, takeAcquiring_otherNumber hlock hgood hlate hnumber, ringOutcome_quiet rfl, handBad_lost hout,
      takeEvent_eq]
    exact ⟨_, rfl⟩
  · rw [exec_frameArrival, takeAcquiring_failed hlock hfail, ringOutcome_quiet rfl, handBad_lost hout, takeEvent_eq]
    exact ⟨_, rfl⟩

end Sys2Proof.Machine
end

section
/-! The window that an event opens, part by part (R4, R24, R56, R61, R64, R82, R126, R145, R146, R185, R191, R198). -/

namespace Sys2Proof.Machine

variable {s t u : State} {time : Nat} {j : Taken} {o : Opening}

/-! ### The deliveries -/

theorem takeMark_dmc (s : State) : (takeMark s).dmc = s.dmc := by
  obtain ⟨_, _, h⟩ := takeMark_frame (s := s)
  rw [h]

theorem takeCell_shedLast (kind : BitVec 4) (p : Word) (hw : s.inWindow = true) :
    (takeCell kind p s).dmc.shedLast = s.dmc.shedLast := by
  have hcommand {c : Command} {args : List Word} {r : State} (hr : r.inWindow = true) :
      (c.effect args r).dmc.shedLast = r.dmc.shedLast := by
    obtain ⟨_, _, _, _, _, _, _, _, _, _, _, _, _, _, _, _, e⟩ := (effect_acts r args c).frame
    rw [e]
  rcases takeCell_cases kind p s with ⟨_, e⟩ | ⟨_, e⟩ | ⟨_, e⟩ | e <;> rw [e]
  · obtain ⟨_, e⟩ := selectCell_frame s p
    rw [e]
  · obtain ⟨_, e⟩ := wordCell_frame s p
    rw [e]
  · unfold endCell
    split
    · rfl
    · next via _ =>
      obtain ⟨_, e | ⟨_, _, _, e⟩⟩ :=
        completeMessage_frame { s with cmu := { s.cmu with assembly := none } } via <;> rw [e]
      exact hcommand hw

/-- Whatever the order, the window's shed count is recorded (R64). -/
theorem deliver_shedLast (o : Opening) (shed d : Nat) (hw : s.inWindow = true) :
    (deliver o shed d s).dmc.shedLast = shed := by
  cases h : handedFrame s.rrx.lock o with
  | none =>
    rw [deliver_unhanded h]
    obtain ⟨_, e⟩ := handBad_frame (recordShed shed s)
    rw [e]
    rfl
  | some f =>
    obtain ⟨markLate, shedLate, _, _, e⟩ := deliver_handed h shed d
    rw [e]
    cases shedLate
    · have hwin : (recordShed shed (if f.mark && !markLate then takeMark s else s)).inWindow = true := by
        have hmark : Delivered s (if f.mark && !markLate then takeMark s else s) := (delivered_takeMark s).ite (.refl s)
        exact hmark.inWindow.trans hw
      have hcell := takeCell_shedLast f.kind f.payload hwin
      cases markLate
      · exact hcell
      · exact (congrArg Dmc.shedLast (takeMark_dmc _)).trans hcell
    · rfl

theorem openWindow_shedLast (time : Nat) (j : Taken) (o : Opening) (s : State) :
    (openWindow time j o s).dmc.shedLast = shedTaps time j s := by
  rw [openWindow_eq, settleExpiry_dmc]
  exact deliver_shedLast o _ _ (windowStaged_inWindow _ _ _)

/-! ### The stages -/

theorem earlyStages_dmc (s : State) : ∃ openRow direction spend pendingRefresh, (earlyStages s).dmc = { s.dmc with
    openRow := openRow, direction := direction, spend := spend, pendingRefresh := pendingRefresh } := by
  obtain ⟨_, _, _, _, _, h⟩ := inputStage_frame (refreshStage (conditionInputs s))
  unfold earlyStages
  rw [h]
  exact ⟨_, _, _, _, rfl⟩

theorem windowStaged_lapse (o : Opening) (d : Nat) (w : State) :
    (windowStaged o d w).lapse = (earlyStages w).lapse := by
  obtain ⟨_, _, _, _, h⟩ := windowStaged_eq o d w
  rw [h]
  generalize earlyStages w = a
  rfl

theorem windowStaged_ios (o : Opening) (d : Nat) (w : State) :
    (windowStaged o d w).ios = { (earlyStages w).ios with queue := w.ios.queue.tail } := by
  obtain ⟨_, _, _, _, h⟩ := windowStaged_eq o d w
  rw [h]
  generalize earlyStages w = a
  rfl

theorem windowStaged_tpe (o : Opening) (d : Nat) (w : State) : (windowStaged o d w).tpe = { w.tpe with
    held := (runTaps (earlyStages w)).held, outs := (runTaps (earlyStages w)).outs
    buses := (runTaps (earlyStages w)).buses } := by
  obtain ⟨_, _, _, _, h⟩ := windowStaged_eq o d w
  obtain ⟨_, _, _, hearly⟩ := earlyStages_frame w
  have htpe : (earlyStages w).tpe = w.tpe := by rw [hearly]
  rw [h, ← htpe]
  generalize earlyStages w = a
  rfl

/-- What the window of an opening leaves of its stages, whatever its frame completes. -/
theorem openWindow_stages (time : Nat) (j : Taken) (o : Opening) (s : State) :
    let w := windowStart time j s
    let e := earlyStages w
    let p := runTaps e
    let t := openWindow time j o s
    t.lines = e.lines ∧ t.memory = e.memory ∧ t.lapse = e.lapse ∧ t.inWindow = true ∧
      t.ios = { e.ios with queue := w.ios.queue.tail, outClips := t.ios.outClips } ∧
      t.tpe = { w.tpe with held := p.held, outs := p.outs, buses := p.buses, busClips := t.tpe.busClips } ∧
      t.dmc = { e.dmc with
        spend := e.dmc.spend + p.spent, openRow := p.row.openRow, direction := p.row.direction
        shedLast := p.shed, shedWorst := t.dmc.shedWorst, shedWindows := t.dmc.shedWindows
        refreshOverruns := t.dmc.refreshOverruns } := by
  dsimp only
  have hshed := openWindow_shedLast time j o s
  have hd := delivered_openWindow time j o s
  have hlines := windowStaged_lines o s.draws (windowStart time j s)
  have hmemory := windowStaged_memory o s.draws (windowStart time j s)
  have hlapse := windowStaged_lapse o s.draws (windowStart time j s)
  have hios := windowStaged_ios o s.draws (windowStart time j s)
  have htpe := windowStaged_tpe o s.draws (windowStart time j s)
  have hdmc := windowStaged_dmc o s.draws (windowStart time j s)
  have hin := windowStaged_inWindow o s.draws (windowStart time j s)
  rw [shedTaps] at hshed
  generalize windowStaged o s.draws (windowStart time j s) = a at hd hlines hmemory hlapse hios htpe hdmc hin
  generalize openWindow time j o s = t at hd hshed ⊢
  generalize earlyStages (windowStart time j s) = e at hshed hlines hmemory hlapse hios htpe hdmc ⊢
  obtain ⟨_, _, _, _, _, _, _, shedLast, _, _, _, _, _, _, _, _, rfl⟩ := hd
  have hshed : shedLast = (runTaps e).shed := hshed
  refine ⟨hlines, hmemory, hlapse, hin, ?_, ?_, ?_⟩
  · simp only [hios]
  · simp only [htpe]
  · simp only [hdmc, hshed, tapStage]

end Sys2Proof.Machine
end

section
/-! What an opening whose frame completes no message leaves of the scene, the survey, the loader and the counters
(R64, R82, R126, R146, R172, R185, R191, R198). -/

namespace Sys2Proof.Machine

variable {s t u : State} {time : Nat} {j : Taken} {o : Opening}

/-! ### The mark -/

theorem takeMark_scc (s : State) : (takeMark s).scc = if s.scc.scene = .armed then
    { s.scc with scene := .fadeOut, ramp := activeRamp s, target := some .swapFadeIn } else s.scc := by
  have htrigger : (takeMark s).scc = (sceneMark s).scc := by
    obtain ⟨_, h⟩ := surveyTrigger_frame (sceneMark s) .mark
    unfold takeMark
    rw [h]
  rw [htrigger]
  rcases sceneMark_cases s with ⟨harmed, h⟩ | ⟨harmed, h⟩
  · rw [h, if_pos harmed]
  · rw [h, if_neg harmed]

theorem sceneMark_svu (s : State) : (sceneMark s).svu = s.svu := by
  rcases sceneMark_cases s with ⟨_, h⟩ | ⟨_, h⟩ <;> rw [h]

theorem takeMark_svu_set {c : SurveyConfig} (hstate : s.svu.state ≠ .idle) (hstart : s.svu.startPending = none)
    (hconfig : s.svu.config = some c) (htrigger : c.trigger = .mark) :
    (takeMark s).svu = { s.svu with triggerPending := true } := by
  rw [← sceneMark_svu s] at hstate hstart hconfig
  rw [takeMark, surveyTrigger_set hstate hstart hconfig htrigger, sceneMark_svu]

theorem takeMark_svu_kept (h : ∀ c, s.svu.state ≠ .idle → s.svu.startPending = none → s.svu.config = some c →
    c.trigger ≠ .mark) : (takeMark s).svu = s.svu := by
  rcases surveyTrigger_cases .mark (sceneMark s) with e | ⟨c, hstate, hstart, hconfig, htrigger, _⟩
  · unfold takeMark
    rw [e, sceneMark_svu]
  · rw [sceneMark_svu] at hstate hstart hconfig
    exact absurd htrigger (h c hstate hstart hconfig)

/-! ### Up to the deliveries -/

theorem forwardedCell_frame (f : Frame) (k : Cmu) : ∃ unit replyBuffer headerHeld, (forwardedCell f k).2 =
    { k with unit := unit, replyBuffer := replyBuffer, headerHeld := headerHeld } := by
  unfold forwardedCell
  rcases offerCell_cases k with ⟨_, h⟩ | ⟨_, _, h⟩ | ⟨_, _, _, _, h⟩ <;> rw [h] <;> split <;> exact ⟨_, _, _, rfl⟩

/-- Of the Command Unit the frame sent reaches the reply alone. -/
theorem sendFrame_cmu_frame (o : Opening) (s : State) : ∃ unit replyBuffer headerHeld, (sendFrame o s).cmu =
    { s.cmu with unit := unit, replyBuffer := replyBuffer, headerHeld := headerHeld } := by
  unfold sendFrame
  split
  case h_3 f _ => exact forwardedCell_frame f s.cmu
  case h_7 f _ => exact forwardedCell_frame f s.cmu
  all_goals exact ⟨_, _, _, rfl⟩

/-- The Command Unit at the end of the tap pass, but for its assembly, its reply and its fault record. -/
theorem windowStaged_notes (o : Opening) (d time : Nat) (j : Taken) (s : State) :
    (windowStaged o d (windowStart time j s)).cmu.shedNote = s.cmu.shedNote ∧
      (windowStaged o d (windowStart time j s)).cmu.restartPending = false := by
  obtain ⟨_, _, _, _, hidle⟩ := idleStart_frame (sendFrame o (windowStart time j s)) o d
  obtain ⟨_, _, _, hsend⟩ := sendFrame_cmu_frame o (windowStart time j s)
  obtain ⟨_, _, hstart, _⟩ := windowStart_cmu time j s
  have hnote : (s.cmu.taken j s.rtx.number).shedNote = s.cmu.shedNote := by
    cases hl : j.lost <;> cases hs : j.searching <;> simp [Cmu.taken, hl, hs, Cmu.abandoned, Cmu.raised]
  rw [windowStaged_cmu, hidle]
  show (sendFrame o (windowStart time j s)).cmu.shedNote = _ ∧ (sendFrame o (windowStart time j s)).cmu.restartPending = _
  rw [hsend, hstart]
  exact ⟨hnote, rfl⟩

/-! ### The loader's expiry -/

theorem windowStaged_tld (o : Opening) (d : Nat) (w : State) :
    (windowStaged o d w).tld = (idleStart o d (sendFrame o w)).tld := by
  obtain ⟨_, _, _, hearly⟩ := earlyStages_frame (idleStart o d (sendFrame o w))
  unfold windowStaged
  rw [hearly]
  rfl

theorem idleReaches_iff (l : Tld) : idleReaches l = true ↔ l.isOpen = true ∧ ∃ n, l.idle = some n ∧
    n + 1 = l.timeout * 1024 := by
  unfold idleReaches
  split <;> simp_all

theorem countIdle_closed (l : Tld) (h : l.isOpen = false) : l.countIdle = l := by
  unfold Tld.countIdle
  split <;> simp_all

theorem countIdle_some {l : Tld} {n : Nat} (hopen : l.isOpen = true) (hidle : l.idle = some n) :
    l.countIdle = { l with idle := some (n + 1) } := by
  unfold Tld.countIdle
  split <;> simp_all

theorem closed_countIdle (l : Tld) : l.countIdle.closed = l.closed := by
  rcases countIdle_cases l with ⟨_, _, _, h⟩ | h <;> rw [h]
  rfl

/-- An expiry of the loader that comes before all else. -/
theorem expireFirst_first {d : Nat} (hreach : idleReaches s.tld = true) (hrace : Config.raceChoice d = true) :
    expireFirst d s = { s with
      tld := s.tld.closed, cmu := s.cmu.raised .loadTimeout s.rtx.number s.tld.table.id } := by
  rw [expireFirst, hreach, hrace, expireLoad, raiseAt_eq]
  rfl

theorem expireFirst_later {d : Nat} (hrace : Config.raceChoice d = false) : expireFirst d s = s := by
  simp [expireFirst, hrace]

theorem settleExpiry_due (h : idleDue s.tld = true) : settleExpiry s = { s with
    tld := s.tld.closed, cmu := s.cmu.raised .loadTimeout s.rtx.number s.tld.table.id } := by
  rw [settleExpiry, if_pos h, expireLoad, raiseAt_eq]

/-- A window start at which the idle timer does not reach its limit counts it, and one at which it does closes the
load (R185, R191). -/
theorem windowStaged_tld_calm (h : Calm j.rrx.lock o s.cmu) (time : Nat) :
    (windowStaged o s.draws (windowStart time j s)).tld =
      if idleReaches s.tld then s.tld.closed else s.tld.countIdle := by
  obtain ⟨_, _, hframe⟩ := sendFrame_frame (windowStart time j s) o
  have hsent : (sendFrame o (windowStart time j s)).tld = (windowStart time j s).tld := by rw [hframe]
  have hstart : (windowStart time j s).tld = (expireFirst s.draws { s with draws := s.draws + 4 }).tld := by
    rw [windowStart, startBlocks_tld, takeEvent_eq]
  cases hreach : idleReaches s.tld with
  | false =>
    rw [expireFirst_never (s := { s with draws := s.draws + 4 }) hreach] at hstart
    have htld : (sendFrame o (windowStart time j s)).tld = s.tld := hsent.trans hstart
    rw [windowStaged_tld, idleStart_counts (by rw [htld]; exact hreach), htld]
    rfl
  | true =>
    rw [windowStaged_tld, idleStart_calm (completes_calm (calm_sent h time))]
    cases hrace : Config.raceChoice s.draws with
    | true =>
      rw [expireFirst_first (s := { s with draws := s.draws + 4 }) hreach hrace] at hstart
      have htld : (sendFrame o (windowStart time j s)).tld = s.tld.closed := hsent.trans hstart
      rw [htld, countIdle_closed _ rfl, settleExpiry_of_not_due rfl]
      rfl
    | false =>
      rw [expireFirst_later hrace] at hstart
      have htld : (sendFrame o (windowStart time j s)).tld = s.tld := hsent.trans hstart
      have hdue : idleDue s.tld.countIdle = true := (idleDue_countIdle s.tld).trans hreach
      rw [htld, settleExpiry_due (s := { sendFrame o (windowStart time j s) with tld := s.tld.countIdle }) hdue]
      exact closed_countIdle s.tld

/-- The fault of an expiry at a window start carries the number of the frame sent before it or with it (R172, R191). -/
theorem windowStaged_fault_calm (h : Calm j.rrx.lock o s.cmu) (time : Nat) (hreach : idleReaches s.tld = true)
    (hfault : s.cmu.fault = none) (hkept : j.lost = false) :
    ∃ number, (windowStaged o s.draws (windowStart time j s)).cmu.fault =
        some ⟨.loadTimeout, number, s.tld.table.id⟩ ∧
      (number = s.rtx.number ∨ number = (windowStaged o s.draws (windowStart time j s)).rtx.number) := by
  have htaken (k : Cmu) (n : BitVec 8) : (k.taken j n).fault = k.fault := by
    cases hs : j.searching <;> simp [Cmu.taken, hkept, hs, Cmu.abandoned]
  obtain ⟨_, _, hframe⟩ := sendFrame_frame (windowStart time j s) o
  obtain ⟨_, _, _, hsend⟩ := sendFrame_cmu_frame o (windowStart time j s)
  have hsentFault : (sendFrame o (windowStart time j s)).cmu.fault =
      (expireFirst s.draws { s with draws := s.draws + 4 }).cmu.fault := by
    rw [hsend]
    show (windowStart time j s).cmu.fault = _
    rw [windowStart, startBlocks_cmu, takeEvent_eq]
    exact htaken _ _
  have hsentTld : (sendFrame o (windowStart time j s)).tld = (expireFirst s.draws { s with draws := s.draws + 4 }).tld := by
    rw [hframe]
    show (windowStart time j s).tld = _
    rw [windowStart, startBlocks_tld, takeEvent_eq]
  rw [windowStaged_cmu, windowStaged_rtx, idleStart_calm (completes_calm (calm_sent h time))]
  cases hrace : Config.raceChoice s.draws with
  | true =>
    rw [expireFirst_first (s := { s with draws := s.draws + 4 }) hreach hrace] at hsentFault hsentTld
    have htld : (sendFrame o (windowStart time j s)).tld = s.tld.closed := hsentTld
    rw [htld, countIdle_closed _ rfl, settleExpiry_of_not_due rfl]
    exact ⟨_, hsentFault.trans (by simp [Cmu.raised, hfault]), .inl rfl⟩
  | false =>
    rw [expireFirst_later hrace] at hsentFault hsentTld
    have htld : (sendFrame o (windowStart time j s)).tld = s.tld := hsentTld
    have hnone : (sendFrame o (windowStart time j s)).cmu.fault = none := hsentFault.trans hfault
    have hdue : idleDue s.tld.countIdle = true := (idleDue_countIdle s.tld).trans hreach
    have htable : s.tld.countIdle.table = s.tld.table := by
      rcases countIdle_cases s.tld with ⟨_, _, _, e⟩ | e <;> rw [e]
    rw [htld, settleExpiry_due (s := { sendFrame o (windowStart time j s) with tld := s.tld.countIdle }) hdue]
    refine ⟨(sendFrame o (windowStart time j s)).rtx.number, ?_, .inr rfl⟩
    show ((sendFrame o (windowStart time j s)).cmu.raised .loadTimeout _ s.tld.countIdle.table.id).fault = _
    simp [Cmu.raised, hnone, htable]

end Sys2Proof.Machine
end

section
/-! Every event that opens a window runs it (R47, R145), and the mark of its frame (R82). -/

namespace Sys2Proof.Machine

variable {s t u : State} {time : Nat} {j : Taken} {o : Opening}

theorem marked_dmc (mark : Bool) (shed : Nat) (s : State) : (marked mark shed s).dmc = (recordShed shed s).dmc := by
  cases mark
  · rfl
  · show (recordShed shed (takeMark s)).dmc = _
    unfold recordShed
    rw [takeMark_dmc]

theorem marked_frame (mark : Bool) (shed : Nat) (s : State) : (marked mark shed s).sgd = s.sgd ∧
    (marked mark shed s).ios = s.ios ∧ (marked mark shed s).tpe = s.tpe := by
  cases mark
  · exact ⟨rfl, rfl, rfl⟩
  · obtain ⟨_, _, h⟩ := takeMark_frame (s := s)
    show (takeMark s).sgd = _ ∧ (takeMark s).ios = _ ∧ (takeMark s).tpe = _
    rw [h]
    exact ⟨rfl, rfl, rfl⟩

theorem marked_scc (mark : Bool) (shed : Nat) (s : State) :
    (marked mark shed s).scc = if mark then (takeMark s).scc else s.scc := by cases mark <;> rfl

theorem marked_svu (mark : Bool) (shed : Nat) (s : State) :
    (marked mark shed s).svu = if mark then (takeMark s).svu else s.svu := by cases mark <;> rfl

/-- The scene after an opening whose frame completes no message: a mark starts an ARMED scene (R82). -/
theorem openWindow_scc (h : Calm j.rrx.lock o s.cmu) (time : Nat) : (openWindow time j o s).scc =
    if markOf j.rrx.lock o = true ∧ (windowStart time j s).scc.scene = .armed then
      { (windowStart time j s).scc with
        scene := .fadeOut, ramp := activeRamp (windowStart time j s), target := some .swapFadeIn }
    else (windowStart time j s).scc := by
  obtain ⟨_, _, e⟩ := openWindow_calm h time
  have hscc := marked_scc (markOf j.rrx.lock o) (shedTaps time j s) (windowStaged o s.draws (windowStart time j s))
  rw [takeMark_scc, windowStaged_scc] at hscc
  have hramp : activeRamp (windowStaged o s.draws (windowStart time j s)) = activeRamp (windowStart time j s) := by
    unfold activeRamp activeBank
    rw [windowStaged_tables, windowStaged_scc]
  rw [hramp] at hscc
  rw [e]
  refine Eq.trans hscc ?_
  cases markOf j.rrx.lock o <;> simp

theorem openWindow_svu (h : Calm j.rrx.lock o s.cmu) (time : Nat) : (openWindow time j o s).svu =
    if markOf j.rrx.lock o then (takeMark (windowStaged o s.draws (windowStart time j s))).svu
    else (windowStart time j s).svu := by
  obtain ⟨_, _, e⟩ := openWindow_calm h time
  have hsvu := marked_svu (markOf j.rrx.lock o) (shedTaps time j s) (windowStaged o s.draws (windowStart time j s))
  rw [windowStaged_svu] at hsvu
  rw [e]
  exact hsvu

theorem tapStage_shedWorst (p : Pass) (s : State) : (tapStage p s).dmc.shedWorst = s.dmc.shedWorst := rfl

theorem tapStage_shedWindows (p : Pass) (s : State) : (tapStage p s).dmc.shedWindows = s.dmc.shedWindows := rfl

/-- An opening whose frame completes no message takes its shed count into the statistics (R64). -/
theorem openWindow_calm_shed (h : Calm j.rrx.lock o s.cmu) (time : Nat) :
    (openWindow time j o s).dmc.shedWorst = max (windowStart time j s).dmc.shedWorst (shedTaps time j s) ∧
      (openWindow time j o s).dmc.shedWindows = if shedTaps time j s = 0 then (windowStart time j s).dmc.shedWindows
        else min ((windowStart time j s).dmc.shedWindows + 1) 65535 := by
  obtain ⟨_, _, e⟩ := openWindow_calm h time
  have hdmc := marked_dmc (markOf j.rrx.lock o) (shedTaps time j s) (windowStaged o s.draws (windowStart time j s))
  have hstaged := windowStaged_dmc o s.draws (windowStart time j s)
  obtain ⟨_, _, _, _, hearly⟩ := earlyStages_dmc (windowStart time j s)
  have hworst : (windowStaged o s.draws (windowStart time j s)).dmc.shedWorst = (windowStart time j s).dmc.shedWorst := by
    rw [hstaged, tapStage_shedWorst, hearly]
  have hwindows : (windowStaged o s.draws (windowStart time j s)).dmc.shedWindows =
      (windowStart time j s).dmc.shedWindows := by
    rw [hstaged, tapStage_shedWindows, hearly]
  rw [e, ← hworst, ← hwindows]
  generalize windowStaged o s.draws (windowStart time j s) = a at hdmc
  generalize shedTaps time j s = n at hdmc
  refine ⟨congrArg Dmc.shedWorst hdmc, (congrArg Dmc.shedWindows hdmc).trans ?_⟩
  rcases Nat.eq_zero_or_pos n with rfl | hpos
  · rfl
  · simp [recordShed, hpos, Nat.pos_iff_ne_zero.1 hpos, saturate]

/-- What an opening whose frame completes no message leaves of the guard, the clip counts, the loader and the notes. -/
theorem openWindow_calm_rest (h : Calm j.rrx.lock o s.cmu) (time : Nat) :
    let w := windowStart time j s
    let t := openWindow time j o s
    t.rrx = w.rrx ∧ t.sgd = w.sgd ∧ t.tables = w.tables ∧ t.cmu.restartPending = false ∧
      t.ios.outClips = w.ios.outClips ∧ t.tpe.busClips = w.tpe.busClips ∧
      t.cmu.shedNote = (s.cmu.shedNote || decide (0 < shedTaps time j s)) ∧
      t.tld = (if idleReaches s.tld then s.tld.closed else s.tld.countIdle) ∧
      t.cmu.fault = (windowStaged o s.draws (windowStart time j s)).cmu.fault := by
  obtain ⟨k, ⟨_, _, _, _, _, _, _, _, hk⟩, e⟩ := openWindow_calm h time
  obtain ⟨hnote, hrestart⟩ := windowStaged_notes o s.draws time j s
  obtain ⟨hsgd, hios, htpe⟩ := marked_frame (markOf j.rrx.lock o) (shedTaps time j s)
    (windowStaged o s.draws (windowStart time j s))
  have hrrx := marked_rrx (markOf j.rrx.lock o) (shedTaps time j s) (windowStaged o s.draws (windowStart time j s))
  have htables := marked_tables (markOf j.rrx.lock o) (shedTaps time j s)
    (windowStaged o s.draws (windowStart time j s))
  have htld := marked_tld (markOf j.rrx.lock o) (shedTaps time j s) (windowStaged o s.draws (windowStart time j s))
  obtain ⟨_, _, _, hearly⟩ := earlyStages_frame (windowStart time j s)
  have hearlyClips : (earlyStages (windowStart time j s)).ios.outClips = (windowStart time j s).ios.outClips := by
    rw [hearly]
    rfl
  rw [windowStaged_rrx] at hrrx
  rw [windowStaged_tables] at htables
  rw [windowStaged_sgd] at hsgd
  rw [windowStaged_ios] at hios
  rw [windowStaged_tpe] at htpe
  rw [windowStaged_tld_calm h time] at htld
  rw [marked_cmu] at hk
  dsimp only
  rw [e, hk]
  clear e hk
  generalize windowStaged o s.draws (windowStart time j s) = a at hnote hrestart hsgd hios htpe hrrx htables htld ⊢
  generalize earlyStages (windowStart time j s) = b at hios htpe hearlyClips
  generalize windowStart time j s = w at hsgd hios htpe hrrx htables hearlyClips ⊢
  generalize shedTaps time j s = n at hsgd hios htpe hrrx htables htld ⊢
  refine ⟨hrrx, hsgd, htables, hrestart, (congrArg Ios.outClips hios).trans hearlyClips, ?_, ?_, htld, rfl⟩
  · show (marked (markOf j.rrx.lock o) n a).tpe.busClips = _
    rw [htpe]
  · rw [← hnote]

/-! ### The events that open a window -/

/-- The row of an event that opens a window runs it after the window that still runs. -/
theorem exec_opening {event : Instr} (hrows : rowsExist s = true) (ho : j.opening = some o)
    (hevent : (∃ f, event = .frameArrival time f ∧ j = s.rrx.takeFrame time f) ∨
      (event = .watchExpiry ∧ watchTime s.rrx = some time ∧ j = s.rrx.takeMissing) ∨
      (event = .localFrameTimerExpiry ∧ localTime s.rrx = some time ∧ j = s.rrx.takeLocal)) :
    exec event s = .next (openWindow time j o (endWindow s)) := by
  rw [← ringOutcome_opens ho hrows]
  rcases hevent with ⟨f, rfl, rfl⟩ | ⟨rfl, ht, rfl⟩ | ⟨rfl, ht, rfl⟩
  · exact exec_frameArrival time f s
  · exact exec_watchExpiry ht
  · exact exec_localFrameTimerExpiry ht

/-- The state in which the receiver has taken the event. -/
def eventTaken (j : Taken) (s : State) : State := takeEvent j (expireFirst s.draws { s with draws := s.draws + 4 })

theorem eventTaken_eq (j : Taken) (s : State) : eventTaken j s = { s with
    rrx := j.rrx, cmu := (eventTaken j s).cmu, tld := (eventTaken j s).tld, draws := (eventTaken j s).draws } := by
  obtain ⟨_, _, _, _, h⟩ := expireFirst_frame { s with draws := s.draws + 4 } s.draws
  rw [eventTaken, takeEvent_eq, h]

theorem eventTaken_restartPending (j : Taken) (s : State) :
    (eventTaken j s).cmu.restartPending = s.cmu.restartPending := by
  obtain ⟨_, _, _, _, hfirst⟩ := expireFirst_frame { s with draws := s.draws + 4 } s.draws
  obtain ⟨k, hk, htake⟩ := takeEvent_frame (expireFirst s.draws { s with draws := s.draws + 4 }) j
  rw [eventTaken, htake]
  refine hk.restartPending.trans ?_
  rw [hfirst]

theorem eventTaken_tld (j : Taken) (h : idleReaches s.tld = false) : (eventTaken j s).tld = s.tld := by
  rw [eventTaken, takeEvent_eq, expireFirst_never (s := { s with draws := s.draws + 4 }) h]

theorem startBlocks_eventTaken (time : Nat) (j : Taken) (s : State) :
    startBlocks time (eventTaken j s) = windowStart time j s := rfl

/-- Settles O33: the stages of every opening, and what a frame that completes no message leaves beside them. -/
theorem openingEventsRunTheWindow : Obligations.OpeningEventsRunTheWindow := by
  intro event time j o s hrows ho hevent
  refine ⟨_, eventTaken j (endWindow s), exec_opening hrows ho hevent, eventTaken_eq j _, ?_, fun hidle => ?_, ?_⟩
  · rw [eventTaken_restartPending, endWindow_cmu]
  · rw [eventTaken_tld j (by rw [endWindow_tld]; exact hidle), endWindow_tld]
  · dsimp only
    rw [startBlocks_eventTaken]
    obtain ⟨hlines, hmemory, hlapse, hin, hios, htpe, hdmc⟩ := openWindow_stages time j o (endWindow s)
    refine ⟨hlines, hmemory, hlapse, hin, hios, htpe, hdmc, fun hcalm => ?_⟩
    have hcalm : Calm j.rrx.lock o (endWindow s).cmu := fun f hf hk hl => by
      rw [endWindow_cmu]
      exact hcalm f hf hk hl
    obtain ⟨hrrx, hsgd, htables, hrestart, hout, hbus, hnote, htld, hfault⟩ := openWindow_calm_rest hcalm time
    obtain ⟨hworst, hwindows⟩ := openWindow_calm_shed hcalm time
    have hscc := openWindow_scc hcalm time
    have hsvu := openWindow_svu hcalm time
    rw [endWindow_tld] at htld
    rw [endWindow_cmu] at hnote
    refine ⟨fun hno => ?_, fun f hlock hf hmark => ?_, hrrx, hsgd, htables, hrestart, hout, hbus, hworst, hwindows, hnote,
      fun hclosed => ?_, fun n hopen hidle => ⟨fun hbelow => ?_, fun hlimit => ⟨?_, fun hnone hkept => ?_⟩⟩⟩
    · have hmarkOf : markOf j.rrx.lock o = false := by
        rw [Bool.eq_false_iff]
        intro hm
        obtain ⟨hlock, f, hf, hmark⟩ := (markOf_iff _ _).1 hm
        rw [hno hlock f hf] at hmark
        cases hmark
      rw [hmarkOf] at hscc hsvu
      exact ⟨hscc.trans (if_neg fun h => Bool.false_ne_true h.1), hsvu⟩
    · have hmarkOf : markOf j.rrx.lock o = true := (markOf_iff _ _).2 ⟨hlock, f, hf, hmark⟩
      rw [hmarkOf] at hscc hsvu
      have hstaged := windowStaged_svu o (endWindow s).draws (windowStart time j (endWindow s))
      refine ⟨fun harmed => hscc.trans (if_pos ⟨rfl, harmed⟩), fun harmed => hscc.trans (if_neg fun h => harmed h.2),
        fun c hstate hstart hconfig htrigger => ?_, fun hother => ?_⟩
      · exact hsvu.trans ((takeMark_svu_set (by rw [hstaged]; exact hstate) (by rw [hstaged]; exact hstart)
          (by rw [hstaged]; exact hconfig) htrigger).trans (by rw [hstaged]))
      · exact hsvu.trans ((takeMark_svu_kept (by rw [hstaged]; exact hother)).trans hstaged)
    · rw [htld, countIdle_closed _ hclosed, if_neg]
      simp [idleReaches, hclosed]
    · rw [htld, countIdle_some hopen hidle, if_neg]
      rw [idleReaches_iff]
      rintro ⟨_, m, hm, hreach⟩
      rw [hidle] at hm
      cases hm
      exact hbelow hreach
    · rw [htld, if_pos ((idleReaches_iff _).2 ⟨hopen, n, hidle, hlimit⟩)]
      rfl
    · have hreach : idleReaches (endWindow s).tld = true := by
        rw [endWindow_tld]
        exact (idleReaches_iff _).2 ⟨hopen, n, hidle, hlimit⟩
      obtain ⟨number, hnumber, hwhich⟩ := windowStaged_fault_calm hcalm time hreach hnone hkept
      rw [windowStaged_rtx, ← openWindow_rtx, endWindow_rtx] at hwhich
      rw [endWindow_tld] at hnumber
      exact ⟨number, hfault.trans hnumber, hwhich⟩

end Sys2Proof.Machine
end

section
/-! The window end at the scene (R24, R72 to R76): a window end makes at most one swap, at the end of a fade-out toward
a swap or where a swap is due. -/

namespace Sys2Proof.Machine

variable {s u : State}

/-! ### The scene's step -/

theorem sceneWindowEnd_other (h : s.scc.scene ≠ s.scc.windowState ∨ s.scc.scene = .steady ∨ s.scc.scene = .armed ∨
    s.scc.scene = .held) : sceneWindowEnd s = s := by
  unfold sceneWindowEnd
  split
  · next hsame =>
    rcases h with h | h | h | h
    · exact absurd hsame h
    all_goals rw [h]
  · rfl

theorem sceneWindowEnd_fadeOut (hw : s.scc.windowState = .fadeOut) (hs : s.scc.scene = .fadeOut) : sceneWindowEnd s =
    if s.scc.ramp ≤ 1 then reachZero s else { s with scc := { s.scc with ramp := s.scc.ramp - 1 } } := by
  unfold sceneWindowEnd
  rw [if_pos (hs.trans hw.symm), hs]

theorem sceneWindowEnd_fadeIn_step (hw : s.scc.windowState = .fadeIn) (hs : s.scc.scene = .fadeIn)
    (h : s.scc.ramp + 1 < activeRamp s) :
    sceneWindowEnd s = { s with scc := { s.scc with ramp := s.scc.ramp + 1 } } := by
  unfold sceneWindowEnd
  rw [if_pos (hs.trans hw.symm), hs]
  have hlt : s.scc.ramp < activeRamp s := by omega
  simp only [if_pos hlt, if_neg (Nat.ne_of_lt h)]

theorem sceneWindowEnd_fadeIn_end (hw : s.scc.windowState = .fadeIn) (hs : s.scc.scene = .fadeIn)
    (h : s.scc.ramp + 1 = activeRamp s ∨ s.scc.ramp = activeRamp s) : sceneWindowEnd s = reachFull s := by
  unfold sceneWindowEnd
  rw [if_pos (hs.trans hw.symm), hs]
  have hnext : (if s.scc.ramp < activeRamp s then s.scc.ramp + 1 else s.scc.ramp) = activeRamp s := by
    split <;> omega
  simp only [if_pos hnext]

theorem fadeOutEnds_iff (s : State) : fadeOutEnds s = true ↔
    s.scc.scene = .fadeOut ∧ s.scc.windowState = .fadeOut ∧ s.scc.ramp ≤ 1 := by
  simp [fadeOutEnds, and_assoc]

theorem swapTarget_iff (t : Option FadeTarget) : swapTarget t = true ↔ t = some .swapFadeIn ∨ t = some .swapHold := by
  simp [swapTarget]

/-- A fade-out toward a swap that reaches ρ = 0 swaps (R73). -/
theorem sceneWindowEnd_swaps (hend : fadeOutEnds s = true) (ht : swapTarget s.scc.target = true) :
    ∃ scene, sceneWindowEnd s = { swap s with
      scc := { (swap s).scc with scene := scene, ramp := 0, target := none } } ∧
      (s.scc.target = some .swapFadeIn → scene = .fadeIn) ∧ (s.scc.target = some .swapHold → scene = .held) := by
  obtain ⟨hs, hw, hr⟩ := (fadeOutEnds_iff s).1 hend
  rw [sceneWindowEnd_fadeOut hw hs, if_pos hr]
  rcases reachZero_cases s with ⟨ht', h⟩ | ⟨ht', h⟩ | ⟨ht', h⟩
  · exact ⟨_, h, fun _ => rfl, fun hc => by rw [ht'] at hc; cases hc⟩
  · exact ⟨_, h, (fun hc => by rw [ht'] at hc; cases hc), fun _ => rfl⟩
  · rcases ht' with ht' | ht' <;> rw [ht'] at ht <;> cases ht

/-- Any other step of the scene changes its state, its ramp and its target alone. -/
theorem sceneWindowEnd_stays (h : fadeOutEnds s = false ∨ swapTarget s.scc.target = false) : ∃ scene ramp target,
    sceneWindowEnd s = { s with scc := { s.scc with scene := scene, ramp := ramp, target := target } } := by
  by_cases hsame : s.scc.scene = s.scc.windowState
  · cases hs : s.scc.scene with
    | fadeOut =>
      rw [sceneWindowEnd_fadeOut (hsame.symm.trans hs) hs]
      split
      · next hr =>
        have hend : fadeOutEnds s = true := (fadeOutEnds_iff s).2 ⟨hs, hsame.symm.trans hs, hr⟩
        rcases reachZero_cases s with ⟨ht, _⟩ | ⟨ht, _⟩ | ⟨_, e⟩
        · simp [hend, ht, swapTarget] at h
        · simp [hend, ht, swapTarget] at h
        · exact ⟨_, _, _, e⟩
      · exact ⟨_, _, _, rfl⟩
    | fadeIn =>
      unfold sceneWindowEnd
      rw [if_pos hsame, hs]
      dsimp only
      generalize (if s.scc.ramp < activeRamp s then s.scc.ramp + 1 else s.scc.ramp) = next
      split <;> exact ⟨_, _, _, rfl⟩
    | steady => exact ⟨_, _, _, sceneWindowEnd_other (.inr (.inl hs))⟩
    | armed => exact ⟨_, _, _, sceneWindowEnd_other (.inr (.inr (.inl hs)))⟩
    | held => exact ⟨_, _, _, sceneWindowEnd_other (.inr (.inr (.inr hs)))⟩
  · exact ⟨_, _, _, sceneWindowEnd_other (.inl hsame)⟩

/-! ### The swap of a window end -/

/-- This window end makes a swap: its fade-out ends toward one, or one is due (R73, R76). -/
def swapsHere (s : State) : Bool := (fadeOutEnds s && swapTarget s.scc.target) || s.scc.swapDue

/-- A state after a swap, but for its scene. -/
def swappedAs (scc : Scc) (triggerPending : Bool) (s : State) : State := { s with
  scc := scc
  tpe := s.tpe.reload (s.tables.bank s.scc.active.other)
  lines := if tailClear (s.tables.bank s.scc.active.other).header then clearBusLines s.lines else s.lines
  svu := { s.svu with triggerPending := triggerPending } }

theorem swap_swappedAs (s : State) : ∃ p, swap s = swappedAs s.scc.swapped p s := swap_frame s

theorem settleSwap_due (hdue : s.scc.swapDue = true) (hw : s.inWindow = false) : settleSwap s = swap s := by
  simp [settleSwap, hdue, hw]

theorem settleSwap_not_due (hdue : s.scc.swapDue = false) : settleSwap s = s := by simp [settleSwap, hdue]

/-- The scene's step and the swap that is due, from the state that the step finds. -/
def sceneEnd (s : State) : State := settleSwap { sceneWindowEnd s with inWindow := false }

theorem endWindow_sceneEnd (h : s.inWindow = true) : endWindow s = sceneEnd (beforeScene s) := by
  rcases endWindow_cases s with ⟨_, e⟩ | ⟨hw, _⟩
  · rw [e, endBlocks_eq, sceneEnd]
  · rw [h] at hw
    cases hw

theorem sceneEnd_swaps (h : swapsHere s = true) : ∃ scc p,
    sceneEnd s = { swappedAs scc p s with inWindow := false } ∧ scc.active = s.scc.active.other := by
  by_cases hfade : fadeOutEnds s = true ∧ swapTarget s.scc.target = true
  · obtain ⟨scene, e, _, _⟩ := sceneWindowEnd_swaps hfade.1 hfade.2
    obtain ⟨p, hswap⟩ := swap_swappedAs s
    rw [hswap] at e
    rw [sceneEnd, e, settleSwap_not_due rfl]
    exact ⟨_, p, rfl, rfl⟩
  · have hdue : s.scc.swapDue = true := by
      unfold swapsHere at h
      rcases Bool.or_eq_true_iff.1 h with h | h
      · exact absurd (Bool.and_eq_true_iff.1 h) hfade
      · exact h
    obtain ⟨scene, ramp, target, e⟩ := sceneWindowEnd_stays (s := s) (by
      rcases Bool.eq_false_or_eq_true (fadeOutEnds s) with he | he
      · exact .inr (Bool.eq_false_iff.2 fun ht => hfade ⟨he, ht⟩)
      · exact .inl he)
    rw [sceneEnd, e, settleSwap_due (s := { s with
      scc := { s.scc with scene := scene, ramp := ramp, target := target }, inWindow := false }) hdue rfl]
    obtain ⟨p, hswap⟩ := swap_swappedAs { s with
      scc := { s.scc with scene := scene, ramp := ramp, target := target }, inWindow := false }
    exact ⟨_, p, hswap, rfl⟩

theorem sceneEnd_stays (h : swapsHere s = false) : ∃ scene ramp target, sceneEnd s = { s with
    scc := { s.scc with scene := scene, ramp := ramp, target := target }, inWindow := false } := by
  obtain ⟨hfade, hdue⟩ := Bool.or_eq_false_iff.1 h
  obtain ⟨scene, ramp, target, e⟩ := sceneWindowEnd_stays (s := s) (Bool.and_eq_false_iff.1 hfade)
  refine ⟨scene, ramp, target, ?_⟩
  rw [sceneEnd, e]
  exact settleSwap_not_due hdue

/-! ### The scene alone -/

/-- The scene's step reads the scene and the banks alone. -/
theorem sceneWindowEnd_scc_congr (hscc : u.scc = s.scc) (hbank : ∀ n, u.tables.bank n = s.tables.bank n) :
    (sceneWindowEnd u).scc = (sceneWindowEnd s).scc := by
  have hramp : activeRamp u = activeRamp s := by
    unfold activeRamp activeBank
    rw [hscc, hbank]
  have hzero : (reachZero u).scc = (reachZero s).scc := by
    unfold reachZero
    rw [hscc]
    split <;> simp [hscc]
  unfold sceneWindowEnd
  rw [hscc, hramp]
  split
  · split
    · split
      · exact hzero
      · rfl
    · dsimp only
      generalize (if s.scc.ramp < activeRamp s then s.scc.ramp + 1 else s.scc.ramp) = next
      split
      · show (reachFull u).scc = (reachFull s).scc
        rw [reachFull, reachFull, hscc, hramp]
      · rfl
    all_goals exact hscc
  · exact hscc

/-- What a swap that is due makes of the scene. -/
theorem sceneEnd_scc (s : State) : (sceneEnd s).scc =
    if (sceneWindowEnd s).scc.swapDue then (sceneWindowEnd s).scc.swapped else (sceneWindowEnd s).scc := by
  unfold sceneEnd
  cases hdue : (sceneWindowEnd s).scc.swapDue with
  | true =>
    rw [settleSwap_due (s := { sceneWindowEnd s with inWindow := false }) hdue rfl]
    obtain ⟨_, h⟩ := swap_frame { sceneWindowEnd s with inWindow := false }
    rw [h]
    rfl
  | false =>
    rw [settleSwap_not_due (s := { sceneWindowEnd s with inWindow := false }) hdue]
    rfl

theorem bank_withResults (t : Tables) (r : Regs Triple 16) (n : BankName) :
    ({ t with results := r } : Tables).bank n = t.bank n := by cases n <;> rfl

theorem beforeScene_scc (s : State) : (beforeScene s).scc = s.scc := by
  obtain ⟨_, h⟩ := beforeScene_eq s
  rw [h]

theorem beforeScene_bank (s : State) (n : BankName) : (beforeScene s).tables.bank n = s.tables.bank n := by
  obtain ⟨_, h⟩ := beforeScene_eq s
  rw [h]
  exact bank_withResults _ _ n

theorem swapsHere_beforeScene (s : State) : swapsHere (beforeScene s) = swapsHere s := by
  unfold swapsHere fadeOutEnds
  rw [beforeScene_scc]

/-- The scene after a window end. -/
theorem endWindow_scc (h : s.inWindow = true) : (endWindow s).scc =
    if (sceneWindowEnd s).scc.swapDue then (sceneWindowEnd s).scc.swapped else (sceneWindowEnd s).scc := by
  rw [endWindow_sceneEnd h, sceneEnd_scc,
    sceneWindowEnd_scc_congr (beforeScene_scc s) (beforeScene_bank s)]

/-- A window end leaves a scene in which nothing ends and no swap is due. -/
theorem endWindow_scc_armed (harmed : s.scc.scene = .armed) (hdue : s.scc.swapDue = false) :
    (endWindow s).scc = s.scc := by
  cases hw : s.inWindow with
  | true =>
    rw [endWindow_scc hw, sceneWindowEnd_other (.inr (.inr (.inl harmed))), hdue]
    rfl
  | false => simp [endWindow, hw]

end Sys2Proof.Machine
end

section
/-! The window end as a row: the scene, the phases and the swap (R8, R9, R18, R42, R72 to R76); and the mark of a
followed frame (R82). -/

namespace Sys2Proof.Machine

variable {s : State}

theorem exec_windowEnd (hrows : rowsExist s = true) : exec .windowEnd s = .next (endWindow s) := by
  show execWindowEnd s = _
  simp [execWindowEnd, hrows]

theorem windowEndIf_due {due : Bool} (hrows : rowsExist s = true) (hw : s.inWindow = true) (hdue : due = true) :
    windowEndIf due s = .next (endWindow s) := by
  simp [windowEndIf, hrows, hw, hdue]

theorem windowEndIf_not_due {due : Bool} (h : ¬(s.inWindow = true ∧ due = true)) : windowEndIf due s = .next s := by
  have hno : (s.inWindow && due) = false := by simpa using h
  simp [windowEndIf, hno]

/-! ### The window end, with a swap or without -/

theorem beforeScene_lines (s : State) :
    (beforeScene s).lines = (busStage (busSamples s) (tapWindowEnd s)).lines := by
  obtain ⟨_, h⟩ := beforeScene_eq s
  rw [h]

theorem beforeScene_tpe (s : State) : (beforeScene s).tpe = (tapWindowEnd s).tpe := by
  obtain ⟨_, h⟩ := beforeScene_eq s
  rw [h]

/-- A window end that makes a swap. -/
theorem endWindow_swaps (hw : s.inWindow = true) (h : swapsHere s = true) :
    (endWindow s).scc.active = s.scc.active.other ∧
      (endWindow s).tpe = (tapWindowEnd s).tpe.reload (s.tables.bank s.scc.active.other) ∧
      (endWindow s).lines = if tailClear (s.tables.bank s.scc.active.other).header then
        clearBusLines (busStage (busSamples s) (tapWindowEnd s)).lines
      else (busStage (busSamples s) (tapWindowEnd s)).lines := by
  obtain ⟨_, _, e, hactive⟩ := sceneEnd_swaps (s := beforeScene s) ((swapsHere_beforeScene s).trans h)
  rw [endWindow_sceneEnd hw, e]
  rw [beforeScene_scc] at hactive
  refine ⟨hactive, ?_, ?_⟩
  · show (beforeScene s).tpe.reload _ = _
    rw [beforeScene_tpe, beforeScene_bank, beforeScene_scc]
  · show (if tailClear ((beforeScene s).tables.bank (beforeScene s).scc.active.other).header then
      clearBusLines (beforeScene s).lines else (beforeScene s).lines) = _
    rw [beforeScene_lines, beforeScene_bank, beforeScene_scc]

/-- A window end that makes none. -/
theorem endWindow_stays (hw : s.inWindow = true) (h : swapsHere s = false) :
    (endWindow s).scc.active = s.scc.active ∧ (endWindow s).tpe = (tapWindowEnd s).tpe ∧
      (endWindow s).lines = (busStage (busSamples s) (tapWindowEnd s)).lines := by
  obtain ⟨_, _, _, e⟩ := sceneEnd_stays (s := beforeScene s) ((swapsHere_beforeScene s).trans h)
  rw [endWindow_sceneEnd hw, e]
  exact ⟨show (beforeScene s).scc.active = _ by rw [beforeScene_scc], beforeScene_tpe s, beforeScene_lines s⟩

/-- The Tap Engine after a window end: its phases advanced, or a new bank's (R8, R9, R18). -/
theorem endWindow_tpe_cases (hw : s.inWindow = true) :
    ((endWindow s).scc.active = s.scc.active → (endWindow s).tpe.held = s.tpe.held ∧ ∀ i,
      (endWindow s).tpe.phases.get i =
        s.tpe.phases.get i + BitVec.ofNat 20 (rateOf ((activeBank s).mods.get i))) ∧
    ((endWindow s).scc.active ≠ s.scc.active →
      (∀ i, (endWindow s).tpe.phases.get i = initialPhaseOf ((s.tables.bank s.scc.active.other).mods.get i)) ∧
      ∀ k, (endWindow s).tpe.held.get k = 0) := by
  cases h : swapsHere s with
  | true =>
    obtain ⟨hactive, htpe, _⟩ := endWindow_swaps hw h
    rw [hactive, htpe]
    exact ⟨fun hsame => absurd hsame (other_ne _),
      fun _ => ⟨fun i => Regs.get_map _ _ i, fun k => Regs.get_fill _ k⟩⟩
  | false =>
    obtain ⟨hactive, htpe, _⟩ := endWindow_stays hw h
    rw [hactive, htpe]
    exact ⟨fun _ => ⟨rfl, fun i => Regs.get_zip _ _ _ i⟩, fun hne => absurd rfl hne⟩

theorem endWindow_scc_not_due (hw : s.inWindow = true) {c : Scc} (hc : (sceneWindowEnd s).scc = c)
    (hdue : c.swapDue = false) : (endWindow s).scc = c := by
  rw [endWindow_scc hw, hc]
  simp [hdue]

/-- A fade-out that ends at this window end leaves the scene that its target names (R73, R74). -/
theorem endWindow_scc_fadeOut (hw : s.inWindow = true) (hend : fadeOutEnds s = true) (hdue : s.scc.swapDue = false) :
    (s.scc.target = some .swapFadeIn → (endWindow s).scc = { s.scc with
      scene := .fadeIn, ramp := 0, target := none, active := s.scc.active.other, shadowLocked := false
      swaps := (s.scc.swaps + 1) % 65536 }) ∧
    (s.scc.target = some .swapHold → (endWindow s).scc = { s.scc with
      scene := .held, ramp := 0, target := none, active := s.scc.active.other, shadowLocked := false
      swaps := (s.scc.swaps + 1) % 65536 }) ∧
    (s.scc.target = some .hold → (endWindow s).scc = { s.scc with scene := .held, ramp := 0, target := none }) := by
  obtain ⟨hs, hfade, hr⟩ := (fadeOutEnds_iff s).1 hend
  obtain ⟨_, hswap⟩ := swap_frame s
  have hscc : (swap s).scc = { s.scc with
      active := s.scc.active.other, shadowLocked := false, swaps := (s.scc.swaps + 1) % 65536 } := by
    rw [hswap]
    simp only [Scc.swapped, ← hdue]
  have hzero : (sceneWindowEnd s).scc = (reachZero s).scc := by rw [sceneWindowEnd_fadeOut hfade hs, if_pos hr]
  refine ⟨fun ht => ?_, fun ht => ?_, fun ht => ?_⟩
  · refine endWindow_scc_not_due hw (hzero.trans ?_) hdue
    simp only [reachZero, ht, hscc]
  · refine endWindow_scc_not_due hw (hzero.trans ?_) hdue
    simp only [reachZero, ht, hscc]
  · refine endWindow_scc_not_due hw (hzero.trans ?_) hdue
    simp only [reachZero, ht]

/-- Settles O44: the scene's step, the due swap and the phases of a window end. -/
theorem windowEndStepsTheScene : Obligations.WindowEndStepsTheScene := by
  intro s hrows hw
  obtain ⟨hstay, hswap⟩ := endWindow_tpe_cases hw
  refine ⟨_, exec_windowEnd hrows, fun hdue => ⟨fun hother => ?_, fun hfade hs => ⟨fun hr => ?_, fun hr => ?_⟩,
    fun hfade hs => ⟨fun hr => ?_, fun hr => ?_⟩, hstay⟩, fun hdue hother => ?_, hswap⟩
  · rw [endWindow_scc hw, sceneWindowEnd_other hother, hdue]
    rfl
  · refine endWindow_scc_not_due hw ?_ hdue
    rw [sceneWindowEnd_fadeOut hfade hs, if_neg (by omega)]
  · exact endWindow_scc_fadeOut hw ((fadeOutEnds_iff s).2 ⟨hs, hfade, hr⟩) hdue
  · exact endWindow_scc_not_due hw (congrArg State.scc (sceneWindowEnd_fadeIn_step hfade hs hr)) hdue
  · exact endWindow_scc_not_due hw (congrArg State.scc (sceneWindowEnd_fadeIn_end hfade hs hr)) hdue
  · rw [endWindow_scc hw, sceneWindowEnd_other hother, if_pos hdue]
    rfl

theorem fadeInEnds_iff (s : State) : fadeInEnds s = true ↔ s.scc.scene = .fadeIn ∧ s.scc.windowState = .fadeIn ∧
    (s.scc.ramp + 1 = activeRamp s ∨ s.scc.ramp = activeRamp s) := by
  simp [fadeInEnds, and_assoc]

/-- Under tail policy CLEAR a swap leaves every bus line empty, whatever the window end has written (R42, R75). -/
theorem cleared_busStage_get (s : State) {i : Fin 40} (hi : 24 ≤ i.val) :
    (clearBusLines (busStage (busSamples s) (tapWindowEnd s)).lines).get i =
      { s.lines.get i with wp := 0, fill := 0 } := by
  obtain ⟨hbase, hrows⟩ := busStage_geometry (busSamples s) (tapWindowEnd s) i
  rw [clearBusLines_get, if_neg (Nat.not_lt.2 hi), Line.cleared, hbase, hrows]
  rfl

/-- Settles O48: each row of a fade's end is the window end at which it falls. -/
theorem fadesReachTheirEnds : Obligations.FadesReachTheirEnds := by
  intro s hrows
  have hout : exec .fadeTargetAction s = windowEndIf (fadeOutEnds s) s := rfl
  have hin : exec .fadeInComplete s = windowEndIf (fadeInEnds s) s := rfl
  refine ⟨⟨fun hno => ?_, fun ⟨hw, hs, hfade, hr⟩ => ?_⟩, fun hno => ?_, fun ⟨hw, hs, hfade, hr⟩ => ?_⟩
  · rw [hout, windowEndIf_not_due fun h => hno ⟨h.1, (fadeOutEnds_iff s).1 h.2⟩]
  · have hend : fadeOutEnds s = true := (fadeOutEnds_iff s).2 ⟨hs, hfade, hr⟩
    refine ⟨_, hout.trans (windowEndIf_due hrows hw hend), exec_windowEnd hrows, endWindow_inWindow s, fun hdue => ?_⟩
    obtain ⟨hfadeIn, hhold, hnone⟩ := endWindow_scc_fadeOut hw hend hdue
    refine ⟨hfadeIn, hhold, hnone, fun ht => ?_⟩
    have hswaps : swapsHere s = true := by
      have htarget : swapTarget s.scc.target = true := (swapTarget_iff _).2 ht
      simp [swapsHere, hend, htarget]
    obtain ⟨_, htpe, hlines⟩ := endWindow_swaps hw hswaps
    refine ⟨fun m => ?_, fun k => ?_, fun hclear i hi => ?_⟩
    · rw [htpe]
      exact Regs.get_map _ _ m
    · rw [htpe]
      exact Regs.get_fill _ k
    · rw [hlines, if_pos (show tailClear _ = true from hclear)]
      exact cleared_busStage_get s hi
  · rw [hin, windowEndIf_not_due fun h => hno ⟨h.1, (fadeInEnds_iff s).1 h.2⟩]
  · have hend : fadeInEnds s = true := (fadeInEnds_iff s).2 ⟨hs, hfade, hr⟩
    refine ⟨_, hin.trans (windowEndIf_due hrows hw hend), exec_windowEnd hrows, endWindow_inWindow s, fun hdue => ?_⟩
    exact endWindow_scc_not_due hw (congrArg State.scc (sceneWindowEnd_fadeIn_end hfade hs hr)) hdue

/-! ### The mark of a followed frame -/

theorem endWindow_bank (s : State) (n : BankName) : (endWindow s).tables.bank n = s.tables.bank n := by
  rw [endWindow_tables]
  exact bank_withResults _ _ n

/-- Settles O23: the mark of a followed frame starts the ARMED scene, whose ramp is the active bank's. -/
theorem markStartsTheArmedScene : Obligations.MarkStartsTheArmedScene := by
  intro time f s hrows hfollow hgood hlate hkind hrestart hdue harmed
  have hexec : exec (.frameArrival time f) s =
      .next (openWindow time (Taken.opens (s.rrx.takeFollowed time f) (.good f)) (.good f) (endWindow s)) := by
    rw [exec_frameArrival, takeFrame_good hfollow hgood hlate]
    exact ringOutcome_opens rfl hrows
  generalize hj : Taken.opens (s.rrx.takeFollowed time f) (.good f) = j at hexec
  have hlock : j.rrx.lock = .locked := by rw [← hj]; rfl
  have hcalm : Calm j.rrx.lock (.good f) (endWindow s).cmu := fun g hg hk => by
    cases hg
    exact absurd hk hkind
  have hscc : (endWindow s).scc = s.scc := endWindow_scc_armed harmed hdue
  have hstart : (windowStart time j (endWindow s)).scc = { s.scc with windowState := .armed } := by
    rw [windowStart_scc, endWindow_cmu, hscc]
    simp [hrestart, harmed]
  have hramp : activeRamp (windowStart time j (endWindow s)) = activeRamp s := by
    unfold activeRamp activeBank
    rw [hstart, windowStart_tables, endWindow_bank]
  have hopen := openWindow_scc hcalm time
  rw [hstart, hramp] at hopen
  refine ⟨_, hexec, fun hmark => ?_, fun hmark => ?_⟩
  · exact hopen.trans (if_pos ⟨(markOf_iff _ _).2 ⟨hlock, f, rfl, hmark⟩, harmed⟩)
  · refine hopen.trans (if_neg fun h => ?_)
    obtain ⟨_, g, hg, hm⟩ := (markOf_iff _ _).1 h.1
    cases hg
    rw [hmark] at hm
    cases hm

end Sys2Proof.Machine
end

section
/-! What a window end leaves in each block (R24, R96, R122 to R124, R126, R199). -/

namespace Sys2Proof.Machine

variable {s : State}

theorem sceneEnd_frame (s : State) : ∃ phases held lines scc p, sceneEnd s = { s with
    tpe := { s.tpe with phases := phases, held := held }, lines := lines, scc := scc
    svu := { s.svu with triggerPending := p }, inWindow := false } := by
  cases h : swapsHere s with
  | true =>
    obtain ⟨scc, p, e, _⟩ := sceneEnd_swaps h
    rw [e]
    exact ⟨_, _, _, scc, p, rfl⟩
  | false =>
    obtain ⟨_, _, _, e⟩ := sceneEnd_stays h
    rw [e]
    exact ⟨_, _, _, _, _, rfl⟩

/-- Each block after a window end: the scene's step reaches the phases, the held values, the lines, itself and the
trigger of the survey. -/
theorem endWindow_blocks (hw : s.inWindow = true) : ∃ phases held lines scc p draws, endWindow s = { s with
    tpe := { (tapWindowEnd s).tpe with phases := phases, held := held }
    lines := lines
    scc := scc
    svu := { (surveyWindowEnd (windowChannels s) s).svu with triggerPending := p }
    dmc := (busStage (busSamples s) (tapWindowEnd s)).dmc
    memory := (busStage (busSamples s) (tapWindowEnd s)).memory
    ios := (finishOutputs s).ios
    sgd := (guardWindowEnd s).sgd
    cmu := (raiseWindowFaults (clippedBuses s) (s.sgd.runDetectors s.ios.conditioned).cuts
      { s with draws := (busStage (busSamples s) (tapWindowEnd s)).draws }).cmu
    tables := { s.tables with results := (surveyWindowEnd (windowChannels s) s).tables.results }
    draws := draws
    inWindow := false } := by
  obtain ⟨phases, held, lines, scc, p, e⟩ := sceneEnd_frame (beforeScene s)
  obtain ⟨draws, h⟩ := beforeScene_eq s
  rw [endWindow_sceneEnd hw, e, h]
  exact ⟨phases, held, lines, scc, p, draws, rfl⟩

theorem endWindow_ios (hw : s.inWindow = true) : (endWindow s).ios = (finishOutputs s).ios := by
  obtain ⟨_, _, _, _, _, _, e⟩ := endWindow_blocks hw
  rw [e]

theorem endWindow_sgd (hw : s.inWindow = true) : (endWindow s).sgd = (guardWindowEnd s).sgd := by
  obtain ⟨_, _, _, _, _, _, e⟩ := endWindow_blocks hw
  rw [e]

theorem endWindow_memory (hw : s.inWindow = true) :
    (endWindow s).memory = (busStage (busSamples s) (tapWindowEnd s)).memory := by
  obtain ⟨_, _, _, _, _, _, e⟩ := endWindow_blocks hw
  rw [e]

theorem endWindow_accumulators (hw : s.inWindow = true) : (endWindow s).tpe.outs = s.tpe.outs ∧
    (endWindow s).tpe.buses = s.tpe.buses ∧
    (endWindow s).tpe.busClips = saturate s.tpe.busClips (clippedBuses s).length := by
  obtain ⟨_, _, _, _, _, _, e⟩ := endWindow_blocks hw
  rw [e]
  exact ⟨rfl, rfl, rfl⟩

theorem endWindow_svu (hw : s.inWindow = true) : ∃ p,
    (endWindow s).svu = { (surveyWindowEnd (windowChannels s) s).svu with triggerPending := p } ∧
    (endWindow s).tables = { s.tables with results := (surveyWindowEnd (windowChannels s) s).tables.results } := by
  obtain ⟨_, _, _, _, p, _, e⟩ := endWindow_blocks hw
  rw [e]
  exact ⟨p, rfl, rfl⟩

theorem endWindow_faults (hw : s.inWindow = true) : (endWindow s).cmu =
    (raiseWindowFaults (clippedBuses s) (s.sgd.runDetectors s.ios.conditioned).cuts
      { s with draws := (busStage (busSamples s) (tapWindowEnd s)).draws }).cmu := by
  obtain ⟨_, _, _, _, _, _, e⟩ := endWindow_blocks hw
  rw [e]

/-! ### Samples and clips -/

theorem clampSample_bounds (x : Int) : -8388608 ≤ clampSample x ∧ clampSample x ≤ 8388607 := by
  unfold clampSample
  omega

/-- A value in the sample range is the value of the sample it makes. -/
theorem toInt_ofInt_clampSample (x : Int) : (BitVec.ofInt 24 (clampSample x)).toInt = clampSample x := by
  obtain ⟨hlow, hhigh⟩ := clampSample_bounds x
  rw [BitVec.toInt_ofInt, Int.bmod_eq_of_le]
  · norm_num
    exact hlow
  · norm_num
    omega

theorem finishOutput_toInt (a : Accumulator) (k : Nat) : (finishOutput a k).toInt =
    max (-8388608) (min ((a.toInt + 16384) / 32768 * (ga k : Int) / 32768) 8388607) :=
  toInt_ofInt_clampSample _

theorem finishBus_toInt (a : Accumulator) :
    (finishBus a).toInt = max (-8388608) (min ((a.toInt + 16384) / 32768) 8388607) :=
  toInt_ofInt_clampSample _

theorem clips_eq (v : Int) : clips v = decide (v < -8388608 ∨ 8388607 < v) := by
  unfold clips
  rw [Bool.decide_or]

theorem clippedBuses_eq (s : State) : clippedBuses s = (List.finRange 16).filter fun b =>
    decide (((s.tpe.buses.get b).toInt + 16384) / 32768 < -8388608 ∨ 8388607 < ((s.tpe.buses.get b).toInt + 16384) / 32768) := by
  simp only [clippedBuses, clips_eq, roundAccumulator]

theorem cells_eq_map_get {α : Type} {n : Nat} (r : Regs α n) : r.cells = (List.finRange n).map r.get := by
  refine List.ext_getElem (by simp [r.size]) fun i hi hj => ?_
  simp [Regs.get_eq_getElem]

/-- The true cells are the registers that hold true. -/
theorem countTrue_cells {n : Nat} (r : Regs Bool n) :
    countTrue r.cells = ((List.finRange n).filter fun i => r.get i).length := by
  rw [cells_eq_map_get, countTrue, List.filter_map, List.length_map]
  rfl

theorem outputClips_eq (s : State) : outputClips s = ((List.finRange 48).filter fun j =>
    let v := ((s.tpe.outs.get j).toInt + 16384) / 32768 * (ga (s.ios.outApplied.get j) : Int) / 32768
    decide (v < -8388608 ∨ 8388607 < v)).length := by
  rw [outputClips, countTrue_cells]
  simp only [Regs.get_zip, clips_eq]
  rfl

/-- Settles O41: the output, the trim and the clip of every channel, in the blocks that a window end leaves. -/
theorem windowEndFinishesTheOutputs : Obligations.WindowEndFinishesTheOutputs := by
  intro s hrows hw
  obtain ⟨houts, hbuses, hclips⟩ := endWindow_accumulators hw
  obtain ⟨_, _, htables⟩ := endWindow_svu hw
  obtain ⟨_, _, _, _, _, _, _, _, _, _, _, _, _, _, hframe⟩ := endWindow_frame s
  refine ⟨_, exec_windowEnd hrows, endWindow_inWindow s, ?_⟩
  rw [endWindow_ios hw]
  refine ⟨⟨_, rfl, fun j => ?_⟩, ?_, fun i => Regs.get_zip _ _ _ i, fun j => Regs.get_zip _ _ _ j, rfl, rfl,
    endWindow_rrx s, endWindow_rtx s, endWindow_tld s, ?_, houts, hbuses, ?_, ?_, ?_, endWindow_lapse s,
    endWindow_pending s⟩
  · rw [Regs.get_zip, outputSamples, Regs.get_zip]
    exact ⟨rfl, finishOutput_toInt _ _⟩
  · show saturate _ (outputClips s) = _
    rw [outputClips_eq, saturate]
  · rw [htables]
  · rw [hclips, clippedBuses_eq, saturate]
  · rw [hframe]
  · rw [hframe]

end Sys2Proof.Machine
end

section
/-! The window end at the survey (R193, R198 to R203, R210). -/

namespace Sys2Proof.Machine

variable {s : State} {c : SurveyConfig} (x : Channels)

/-! ### Where no measurement is, a window end adds nothing -/

/-- The survey waits for a start, or has no configuration. -/
def NoSurvey (v : Svu) : Prop := v.startPending.isSome = true ∨ v.config = none

theorem surveyWindowEnd_none (h : NoSurvey s.svu) : surveyWindowEnd x s = s := by
  unfold surveyWindowEnd
  split
  · rfl
  · rfl
  · next hstart hconfig =>
    rcases h with h | h
    · simp [hstart] at h
    · simp [hconfig] at h

theorem surveyTrigger_none (h : NoSurvey s.svu) (k : Trigger) : surveyTrigger k s = s := by
  rcases surveyTrigger_cases k s with e | ⟨_, _, hstart, hconfig, _⟩
  · exact e
  · rcases h with h | h
    · simp [hstart] at h
    · simp [hconfig] at h

theorem swap_svu_none (h : NoSurvey s.svu) : (swap s).svu = s.svu := by
  rw [swap_eq, surveyTrigger_none (s := beforeTrigger s) h]
  rfl

theorem sceneEnd_svu_none (h : NoSurvey s.svu) : (sceneEnd s).svu = s.svu := by
  have hstep : (sceneWindowEnd s).svu = s.svu := by
    by_cases hswap : fadeOutEnds s = true ∧ swapTarget s.scc.target = true
    · obtain ⟨_, e, _⟩ := sceneWindowEnd_swaps hswap.1 hswap.2
      rw [e]
      exact swap_svu_none h
    · obtain ⟨_, _, _, e⟩ := sceneWindowEnd_stays (s := s) (by simpa using not_and_or.1 hswap)
      rw [e]
  unfold sceneEnd
  cases hdue : (sceneWindowEnd s).scc.swapDue with
  | true =>
    rw [settleSwap_due (s := { sceneWindowEnd s with inWindow := false }) hdue rfl]
    exact (swap_svu_none (s := { sceneWindowEnd s with inWindow := false }) (hstep.symm ▸ h)).trans hstep
  | false =>
    rw [settleSwap_not_due (s := { sceneWindowEnd s with inWindow := false }) hdue]
    exact hstep

/-! ### One window of a measurement -/

section
variable (hstart : s.svu.startPending = none) (hconfig : s.svu.config = some c)
include hstart hconfig

theorem surveyWindowEnd_level (hmode : c.mode ≠ .decay) (hstate : s.svu.state = .measuring) : surveyWindowEnd x s =
    if s.svu.counter + 1 = 2 ^ c.exponent then
      finishLevel c { s with svu := s.svu.addLevel (x.sample (surveyChannel c s.svu.position)) }
    else { s with svu := s.svu.addLevel (x.sample (surveyChannel c s.svu.position)) } := by
  unfold surveyWindowEnd
  rw [hstart, hconfig]
  dsimp only
  rw [if_neg hmode, hstate]
  rfl

theorem surveyWindowEnd_quiet (hmode : c.mode ≠ .decay) (hstate : s.svu.state ≠ .measuring) : surveyWindowEnd x s = s := by
  unfold surveyWindowEnd
  rw [hstart, hconfig]
  dsimp only
  rw [if_neg hmode]
  split
  · rfl
  · rfl
  · next h => exact absurd h hstate

theorem surveyWindowEnd_waiting (hmode : c.mode = .decay) (hstate : s.svu.state = .waiting) :
    surveyWindowEnd x s = { s with svu := s.svu.follow (x.sample c.start) } := by
  unfold surveyWindowEnd
  rw [hstart, hconfig]
  dsimp only
  rw [if_pos hmode, hstate]

theorem surveyWindowEnd_idle (hmode : c.mode = .decay) (hstate : s.svu.state = .idle) : surveyWindowEnd x s = s := by
  unfold surveyWindowEnd
  rw [hstart, hconfig]
  dsimp only
  rw [if_pos hmode, hstate]

theorem surveyWindowEnd_decay (hmode : c.mode = .decay) (hstate : s.svu.state = .measuring) : surveyWindowEnd x s =
    if (s.svu.follow (x.sample c.start)).addDecay.t30.isSome = true ∨ s.svu.counter + 1 = 2 ^ c.exponent then
      finishDecay c { s with svu := (s.svu.follow (x.sample c.start)).addDecay }
    else { s with svu := (s.svu.follow (x.sample c.start)).addDecay } := by
  unfold surveyWindowEnd
  rw [hstart, hconfig]
  dsimp only
  rw [if_pos hmode, hstate]
  simp only [Bool.or_eq_true, decide_eq_true_eq]
  rfl

/-- A window end outside a measurement writes no RESULTS entry. -/
theorem surveyWindowEnd_results (hstate : s.svu.state ≠ .measuring) :
    (surveyWindowEnd x s).tables.results = s.tables.results := by
  by_cases hmode : c.mode = .decay
  · cases hs : s.svu.state with
    | idle => rw [surveyWindowEnd_idle x hstart hconfig hmode hs]
    | waiting => rw [surveyWindowEnd_waiting x hstart hconfig hmode hs]
    | measuring => exact absurd hs hstate
  · rw [surveyWindowEnd_quiet x hstart hconfig hmode hstate]

/-- In DECAY the envelope follows the channel, whatever else the window end does (R202). -/
theorem surveyWindowEnd_envelope (hmode : c.mode = .decay) (hstate : s.svu.state ≠ .idle) :
    (surveyWindowEnd x s).svu.envelope = trackEnvelope s.svu.envelope (energy (x.sample c.start)) 64 := by
  cases hs : s.svu.state with
  | idle => exact absurd hs hstate
  | waiting =>
    rw [surveyWindowEnd_waiting x hstart hconfig hmode hs]
    rfl
  | measuring =>
    rw [surveyWindowEnd_decay x hstart hconfig hmode hs]
    split <;> rfl

end

theorem sweeps_iff (m : SurveyMode) : m.sweeps = true ↔ m = .levelSweep ∨ m = .levelRepeatSweep := by
  cases m <;> decide

theorem reachTime_eq (time : Option Nat) (count : Nat) (level reference fall : Int) :
    reachTime time count level reference fall =
      if time.isSome then time else if level ≤ reference - fall then some (min count 65535) else none := by
  cases time <;> rfl

/-- An envelope after a step is the exact number: no step takes it below 0 (R97, R202). -/
theorem trackEnvelope_eq (v : Nat) (x : Sample) {d : Nat} (hd : 0 < d) :
    (trackEnvelope v (energy x) d : Int) = v + (x.toInt * x.toInt - v) / d := by
  have hsquare : 0 ≤ x.toInt * x.toInt := mul_self_nonneg _
  have henergy : (energy x : Int) = x.toInt * x.toInt := Int.toNat_of_nonneg hsquare
  have hpos : (0 : Int) < d := by exact_mod_cast hd
  have hstep : -(v : Int) ≤ (x.toInt * x.toInt - v) / d := by
    rw [Int.le_ediv_iff_mul_le hpos]
    nlinarith
  rw [trackEnvelope, henergy]
  omega

/-- The sample of a survey channel at the end of a window, in the accumulators of the window (R193). -/
theorem windowChannels_sample (s : State) (channel : Nat) : ((windowChannels s).sample channel).toInt =
    if channel < 24 then (s.ios.conditioned.get (Fin.ofNat 24 channel)).toInt
    else if channel < 40 then
      max (-8388608) (min (((s.tpe.buses.get (Fin.ofNat 16 (channel - 24))).toInt + 16384) / 32768) 8388607)
    else (finishOutput (s.tpe.outs.get (Fin.ofNat 48 (channel - 40)))
      (s.ios.outApplied.get (Fin.ofNat 48 (channel - 40)))).toInt := by
  unfold Channels.sample windowChannels
  dsimp only
  split
  · rfl
  · split
    · rw [busSamples, Regs.get_map, finishBus_toInt]
    · rw [outputSamples, Regs.get_zip]

theorem surveyChannel_eq (c : SurveyConfig) (position : Nat) : surveyChannel c position =
    if c.mode = .levelSweep ∨ c.mode = .levelRepeatSweep then c.start + position else c.start := by
  unfold surveyChannel
  simp only [sweeps_iff]

end Sys2Proof.Machine
end

section
/-! The window end at the survey as its row tells it (R199 to R203). -/

namespace Sys2Proof.Machine

variable {s : State} {c : SurveyConfig}

/-- A level measurement that finishes writes one entry and goes on by its mode, in the fields of R210 (R200, R201). -/
theorem finishLevel_fields {v : Svu} (hpeak : v.peak ≤ 8388608) (hconfig : v.config = some c) :
    field (levelResult c v).w0 23 22 = 1 ∧ field (levelResult c v).w0 11 8 = 0 ∧
    field (levelResult c v).w0 7 0 = (v.sequence + 1) % 256 ∧
    signedField (levelResult c v).w0 21 12 = lev (v.sum / 2 ^ c.exponent) ∧
    (surveyChannel c v.position < 88 → (levelResult c v).w1.toNat = 65536 * surveyChannel c v.position) ∧
    (levelResult c v).w2.toNat = v.peak ∧
    (c.mode = .levelSingle ∨ (c.mode = .levelSweep ∧ c.group ≤ v.position + 1) →
      (c.trigger = .now → (v.levelDone c).state = .idle) ∧
      (c.trigger ≠ .now → (v.levelDone c).state = .waiting ∧ (v.levelDone c).config = some c)) := by
  obtain ⟨hkind, hlevel, hseq, hzero⟩ := levelEntry_head (surveyChannel c v.position) v.peak
    (lev_range (v.sum / 2 ^ c.exponent)).1 (lev_range _).2 (nextSequence_lt v)
  refine ⟨hkind, hzero, hseq, hlevel, levelEntry_channel _ _ _, levelEntry_peak _ _ _ hpeak, fun h => ?_⟩
  rw [levelDone_last _ h]
  refine ⟨fun ht => ?_, fun ht => ?_⟩
  · rw [rest_now _ ht]
  · rw [rest_waiting _ ht]
    exact ⟨rfl, hconfig⟩

/-- The times of a decay measurement after a window (R203). -/
theorem addDecay_eq (v : Svu) {reference : Int} (href : v.reference = some reference) : v.addDecay = { v with
    counter := v.counter + 1
    t20 := if v.t20.isSome then v.t20 else if lev v.envelope ≤ reference - 80 then some (min (v.counter + 1) 65535) else none
    t30 := if v.t30.isSome then v.t30
      else if lev v.envelope ≤ reference - 120 then some (min (v.counter + 1) 65535) else none } := by
  unfold Svu.addDecay
  simp only [reachTime_eq, href, Option.getD_some]

/-- A decay measurement that finishes writes entry 0 (R203, R210). -/
theorem finishDecay_eq (c : SurveyConfig) (s : State) : finishDecay c s = { s with
    tables := { s.tables with results := s.tables.results.put 0 (decayEntry (s.svu.reference.getD 0)
      s.svu.nextSequence c.start (s.svu.t20.getD 65535) (s.svu.t30.getD 65535)) }
    svu := { s.svu with
      sequence := s.svu.nextSequence, state := .waiting, t20 := some (s.svu.t20.getD 65535)
      t30 := some (s.svu.t30.getD 65535) } } := rfl

/-- A level measurement that finishes at a window end. -/
theorem surveyWindowEnd_levelDone (x : Channels) (hstart : s.svu.startPending = none) (hconfig : s.svu.config = some c)
    (hmode : c.mode ≠ .decay) (hstate : s.svu.state = .measuring) (hcount : s.svu.counter + 1 = 2 ^ c.exponent) {v : Svu}
    (hv : s.svu.addLevel (x.sample (surveyChannel c s.svu.position)) = v) : surveyWindowEnd x s = { s with
      tables := { s.tables with results := s.tables.results.put (levelIndex c v) (levelResult c v) }
      svu := v.levelDone c } := by
  rw [surveyWindowEnd_level x hstart hconfig hmode hstate, if_pos hcount, hv]
  exact finishLevel_eq c { s with svu := v }

/-- Settles O45: the window that a measurement adds, and the entry it leaves at its end. -/
theorem windowEndMeasures : Obligations.WindowEndMeasures := by
  refine ⟨fun c s hrows hw hstart hconfig => ⟨_, exec_windowEnd hrows, ?_⟩, fun s hrows hw hnone => ?_⟩
  · obtain ⟨p, hsvu, htables⟩ := endWindow_svu hw
    intro channel x
    have hchannel : channel = surveyChannel c s.svu.position := (surveyChannel_eq _ _).symm
    have hx : x = ((windowChannels s).sample channel).toInt := (windowChannels_sample s channel).symm
    have hdecay : c.mode = .decay → channel = c.start := fun h => by
      rw [hchannel, surveyChannel_eq, if_neg (by simp [h])]
    clear_value x channel
    subst hx
    rw [hsvu, htables]
    refine ⟨fun hmode hstate hcount => ?_, fun hmode hstate hcount hposition hpeak => ?_, fun hmode hstate => ?_,
      fun hmode hstate => ?_, fun reference hmode hstate href => ?_, fun hstate => ?_⟩
    · rw [surveyWindowEnd_level _ hstart hconfig hmode hstate, if_neg (Nat.ne_of_lt hcount), ← hchannel]
      exact ⟨rfl, rfl⟩
    · obtain ⟨v, hv⟩ : ∃ v, s.svu.addLevel ((windowChannels s).sample channel) = v := ⟨_, rfl⟩
      have hsum : v.sum = s.svu.sum + energy ((windowChannels s).sample channel) := by rw [← hv]; rfl
      have hpeakOf : v.peak = max s.svu.peak ((windowChannels s).sample channel).toInt.natAbs := by rw [← hv]; rfl
      have hsequence : v.sequence = s.svu.sequence := by rw [← hv]; rfl
      have hposition' : v.position = s.svu.position := by rw [← hv]; rfl
      have hnext : v.peak ≤ 8388608 := hpeakOf ▸ max_le hpeak (natAbs_sample_le _)
      obtain ⟨hkind, hzero, hseq, hlevel, hchan, hp, hrest⟩ := finishLevel_fields (c := c) hnext (by rw [← hv]; exact hconfig)
      rw [hsum] at hlevel
      rw [hpeakOf] at hp
      rw [hsequence] at hseq
      rw [hposition', ← hchannel] at hchan
      rw [hposition'] at hrest
      rw [surveyWindowEnd_levelDone _ hstart hconfig hmode hstate hcount (hchannel ▸ hv)]
      refine ⟨levelResult c v, ?_, hkind, hzero, hseq, hlevel, hchan, hp, ?_, fun h => ?_, fun h => ?_,
        fun h hn => ?_, hrest⟩
      · simp only [levelIndex, sweeps_iff, hposition']
      · exact (levelDone_sequence _ _).trans (congrArg (fun n => (n + 1) % 256) hsequence)
      · rw [levelDone_repeat _ h, ← hv]
        rfl
      · rw [levelDone_repeatSweep _ h, ← hv]
        rfl
      · rw [levelDone_next _ h (hposition'.symm ▸ hn), ← hv]
        rfl
    · rw [hdecay hmode]
      show ((surveyWindowEnd _ s).svu.envelope : Int) = _
      rw [surveyWindowEnd_envelope _ hstart hconfig hmode hstate, trackEnvelope_eq _ _ (by decide)]
      rfl
    · rw [surveyWindowEnd_waiting _ hstart hconfig hmode hstate]
      rfl
    · intro count level reach t20 t30
      have hlevel : level = lev (trackEnvelope s.svu.envelope (energy ((windowChannels s).sample c.start)) 64) :=
        congrArg lev (surveyWindowEnd_envelope _ hstart hconfig hmode (by simp [hstate]))
      have hadd : (s.svu.follow ((windowChannels s).sample c.start)).addDecay = { s.svu with
          envelope := trackEnvelope s.svu.envelope (energy ((windowChannels s).sample c.start)) 64
          counter := count, t20 := t20, t30 := t30 } := by
        rw [addDecay_eq (s.svu.follow ((windowChannels s).sample c.start)) href]
        simp only [t20, t30, reach, hlevel]
        rfl
      clear_value t20 t30
      rw [surveyWindowEnd_decay _ hstart hconfig hmode hstate, hadd]
      refine ⟨fun hnone hmore => ?_, fun hend => ?_⟩
      · rw [if_neg (by simp [hnone]; exact hmore)]
        exact ⟨rfl, rfl⟩
      · rw [if_pos hend, finishDecay_eq]
        refine ⟨rfl, fun hchan hlow hhigh h20 h30 => ?_⟩
        obtain ⟨hkind, hlev, hseq, hzero⟩ := decayEntry_head c.start (t20.getD 65535) (t30.getD 65535) hlow hhigh
          (nextSequence_lt s.svu)
        refine ⟨decayEntry reference s.svu.nextSequence c.start (t20.getD 65535) (t30.getD 65535), ?_, hkind, hlev, hseq, hzero, decayEntry_channel _ _ _ hchan h20, decayEntry_t30 _ _ _ _ h30⟩
        simp only [href, Option.getD_some]
        rfl
    · rw [surveyWindowEnd_results _ hstart hconfig hstate]
  · obtain ⟨_, _, htables⟩ := endWindow_svu hw
    obtain ⟨_, hbefore⟩ := beforeScene_eq s
    rw [surveyWindowEnd_none _ hnone] at htables hbefore
    have hsvu : (beforeScene s).svu = s.svu := by rw [hbefore]
    refine ⟨_, exec_windowEnd hrows, ?_, htables⟩
    rw [endWindow_sceneEnd hw, sceneEnd_svu_none (hsvu.symm ▸ hnone), hsvu]

end Sys2Proof.Machine
end

section
/-! The guard at a window end (R96 to R109): each detector by itself, and on each group the overflows of its detectors. -/

namespace Sys2Proof.Machine

/-! ### One detector -/

/-- A latched detector only counts its trips (R100). -/
def Detector.latched (d : Detector) : Bool := d.flag && d.entry.action != .reduce

/-- The next trip counted is the N-th (R100). -/
def Detector.last (d : Detector) : Bool := decide (d.entry.tripLimit ≤ d.trips + 1)

theorem not_latched_iff (d : Detector) : d.latched = false ↔ d.flag = false ∨ d.entry.action = .reduce := by
  cases hflag : d.flag <;> simp [Detector.latched, hflag]

/-- A trip by the latch and the limit (R100). -/
theorem takeTrip_eq (d : Detector) : d.takeTrip =
    if d.latched then ({ d with total := saturate d.total 1, forgive := 0 }, false)
    else if d.last then ({ d with total := saturate d.total 1, forgive := 0, flag := true, trips := 0 }, true)
    else ({ d with total := saturate d.total 1, forgive := 0, trips := d.trips + 1 }, false) := by
  split
  · next h =>
    obtain ⟨hflag, haction⟩ := Bool.and_eq_true_iff.1 h
    exact takeTrip_latched hflag (by simpa using haction)
  · next h =>
    have hfree := (not_latched_iff d).1 (by simpa using h)
    split
    · next hlast => exact takeTrip_overflow hfree (by simpa [Detector.last] using hlast)
    · next hlast => exact takeTrip_counted hfree (by simpa [Detector.last] using hlast)

section
variable (d : Detector) (x : Sample)

/-- The rise condition of a detector at a window end, tested on the envelopes it then has (R98). -/
def Detector.rises : Bool := (d.follow x).rising

/-- The window end makes the debounce count D (R99). -/
def Detector.tripped : Bool := d.rises x && d.debounce + 1 == d.entry.debounceWindows

/-- The debounce count after a window end (R99). -/
def Detector.debounced : Nat :=
  if d.rises x then (if d.debounce = d.entry.debounceWindows then d.debounce else d.debounce + 1) else 0

/-- An enabled detector with its envelopes and its count of the window that ends (R97, R99). -/
def Detector.counted : Detector := { d.follow x with debounce := d.debounced x }

theorem stepDebounce_eq : (d.follow x).stepDebounce (d.rises x) = d.counted x := by
  unfold Detector.stepDebounce Detector.counted Detector.debounced
  split
  · split
    · next h => rw [if_pos (show d.debounce = d.entry.debounceWindows from h)]; rfl
    · next h => rw [if_neg (show ¬d.debounce = d.entry.debounceWindows from h)]; rfl
  · rfl

theorem tripsNow_eq : (d.follow x).tripsNow (d.rises x) = d.tripped x := by
  show (d.rises x && decide (d.debounce ≠ d.entry.debounceWindows) && decide (d.debounce + 1 = d.entry.debounceWindows)) = _
  rw [Detector.tripped, Bool.and_assoc]
  congr 1
  rw [Bool.eq_iff_iff]
  simp
  omega

theorem windowEnd_off (h : d.entry.enable = false) : d.windowEnd x = (d, false) := by
  simp [Detector.windowEnd, h]

theorem windowEnd_on (h : d.entry.enable = true) : d.windowEnd x =
    if d.tripped x then (d.counted x).takeTrip else ((d.counted x).stepForgiveness, false) := by
  unfold Detector.windowEnd
  rw [if_pos h, ← stepDebounce_eq, ← tripsNow_eq]
  rfl

/-- What the rules of a trip and of the forgiveness timer read of a detector stands as before. -/
theorem counted_keeps : (d.counted x).entry = d.entry ∧ (d.counted x).latched = d.latched ∧
    (d.counted x).last = d.last ∧ (d.counted x).flag = d.flag ∧ (d.counted x).trips = d.trips ∧
    (d.counted x).total = d.total ∧ (d.counted x).forgive = d.forgive :=
  ⟨rfl, rfl, rfl, rfl, rfl, rfl, rfl⟩

/-- An enabled detector overflows at its trip that is the N-th, unless it is latched (R100). -/
theorem windowEnd_overflow (h : d.entry.enable = true) :
    (d.windowEnd x).2 = (d.tripped x && !d.latched && d.last) := by
  obtain ⟨_, hlatched, hlast, _⟩ := counted_keeps d x
  rw [windowEnd_on d x h, takeTrip_eq, hlatched, hlast]
  cases d.tripped x <;> cases d.latched <;> cases d.last <;> simp

/-- What a window end leaves of an enabled detector, whatever it trips: its envelopes and its count (R97, R99). -/
theorem windowEnd_follows (h : d.entry.enable = true) : (d.windowEnd x).1.entry = d.entry ∧
    (d.windowEnd x).1.fast = trackEnvelope d.fast (energy x) 64 ∧
    (d.windowEnd x).1.slow = trackEnvelope d.slow (energy x) 16384 ∧
    (d.windowEnd x).1.debounce = d.debounced x := by
  have hcounted : (d.counted x).entry = d.entry ∧ (d.counted x).fast = trackEnvelope d.fast (energy x) 64 ∧
      (d.counted x).slow = trackEnvelope d.slow (energy x) 16384 ∧ (d.counted x).debounce = d.debounced x :=
    ⟨rfl, rfl, rfl, by rw [Detector.counted]⟩
  rw [windowEnd_on d x h]
  generalize d.counted x = f at hcounted ⊢
  split
  · rw [takeTrip_eq]
    (repeat' split) <;> exact hcounted
  · unfold Detector.stepForgiveness
    split <;> exact hcounted

/-- A detector that trips counts it in its total and by its latch and its limit (R100). -/
theorem windowEnd_trips (h : d.entry.enable = true) (ht : d.tripped x = true) :
    (d.windowEnd x).1.total = min (d.total + 1) 65535 ∧ (d.windowEnd x).1.forgive = 0 ∧
    (d.latched = true → (d.windowEnd x).1.flag = d.flag ∧ (d.windowEnd x).1.trips = d.trips) ∧
    (d.latched = false → d.last = false →
      (d.windowEnd x).1.flag = d.flag ∧ (d.windowEnd x).1.trips = d.trips + 1) ∧
    (d.latched = false → d.last = true → (d.windowEnd x).1.flag = true ∧ (d.windowEnd x).1.trips = 0) := by
  obtain ⟨_, hlatched, hlast, hflag, htrips, htotal, _⟩ := counted_keeps d x
  rw [windowEnd_on d x h, if_pos ht, ← hlatched, ← hlast, ← hflag, ← htrips, ← htotal]
  generalize d.counted x = f
  rw [takeTrip_eq]
  cases f.latched <;> cases f.last <;> simp [saturate]

/-- A detector that does not trip steps its forgiveness timer (R101). -/
theorem windowEnd_forgives (h : d.entry.enable = true) (ht : d.tripped x = false) :
    (d.windowEnd x).1.total = d.total ∧ (d.windowEnd x).1.flag = d.flag ∧
    (d.forgive + 1 = d.entry.forgiveness * 1024 →
      (d.windowEnd x).1.forgive = 0 ∧ (d.windowEnd x).1.trips = d.trips - 1) ∧
    (d.forgive + 1 ≠ d.entry.forgiveness * 1024 →
      (d.windowEnd x).1.forgive = d.forgive + 1 ∧ (d.windowEnd x).1.trips = d.trips) := by
  obtain ⟨hentry, _, _, hflag, htrips, htotal, hforgive⟩ := counted_keeps d x
  rw [windowEnd_on d x h, if_neg (by simp [ht]), ← hentry, ← hflag, ← htrips, ← htotal, ← hforgive]
  generalize d.counted x = f
  unfold Detector.stepForgiveness Detector.forgiven
  split
  · next hdue => exact ⟨rfl, rfl, fun _ => ⟨rfl, rfl⟩, fun hno => absurd hdue hno⟩
  · next hdue => exact ⟨rfl, rfl, fun hyes => absurd hyes hdue, fun _ => ⟨rfl, rfl⟩⟩

end

/-! ### One group under the overflows of a window -/

/-- A group after so many REDUCE and so many CUT overflows on it, in any order (R104 to R106). -/
def Group.struck (g : Group) (reduces cuts : Nat) : Group := { g with
  target := if cuts ≠ 0 then mute
    else if g.target ≤ 60 ∧ reduces ≠ 0 then min (g.target + reduces * g.entry.step) g.entry.floor else g.target
  timer := if reduces ≠ 0 then 0 else g.timer }

theorem struck_zero (g : Group) : g.struck 0 0 = g := by simp [Group.struck]

theorem struck_cut (g : Group) (r c : Nat) : g.cut.struck r c = g.struck r (c + 1) := by
  have hmute : ¬mute ≤ 60 := by decide
  simp [Group.struck, Group.cut, hmute]

theorem struck_reduce {g : Group} (hfloor : g.entry.floor ≤ 60) (r c : Nat) : g.reduce.struck r c = g.struck (r + 1) c := by
  have htimer : (if r ≠ 0 then 0 else 0) = (if r + 1 ≠ 0 then 0 else g.timer) := by simp
  have htarget : (if (if g.target ≤ 60 then min (g.target + g.entry.step) g.entry.floor else g.target) ≤ 60 ∧ r ≠ 0 then
        min ((if g.target ≤ 60 then min (g.target + g.entry.step) g.entry.floor else g.target) + r * g.entry.step)
          g.entry.floor
      else if g.target ≤ 60 then min (g.target + g.entry.step) g.entry.floor else g.target) =
      if g.target ≤ 60 ∧ r + 1 ≠ 0 then min (g.target + (r + 1) * g.entry.step) g.entry.floor else g.target := by
    rw [Nat.add_mul, Nat.one_mul]
    by_cases hle : g.target ≤ 60
    · rw [if_pos hle, if_pos (show g.target ≤ 60 ∧ r + 1 ≠ 0 from ⟨hle, by omega⟩)]
      by_cases hr : r = 0
      · subst hr
        simp
      · rw [if_pos ⟨by omega, hr⟩]
        generalize r * g.entry.step = k
        omega
    · rw [if_neg hle, if_neg (fun h => hle h.1), if_neg (fun h => hle h.1)]
  unfold Group.struck Group.reduce
  dsimp only
  rw [htarget, htimer]

end Sys2Proof.Machine
end

section
/-! The detectors of a window end in ascending order, and what they leave on the groups (R96, R103 to R109). -/

namespace Sys2Proof.Machine

variable (x : Regs Sample 24) (dets : Fin 24 → Detector)

/-- Detector `i` overflows at this window end, with an action (R100, R103). -/
def strikes (a : Action) (i : Fin 24) : Bool := ((dets i).windowEnd (x.get i)).2 && (dets i).entry.action == a

/-- Detector `i` overflows on a group, with an action. -/
def strikesOn (a : Action) (g : Fin 8) (i : Fin 24) : Bool := strikes x dets a i && (dets i).entry.group == g

/-- The detectors of a run that overflow on a group, with an action. -/
def struckBy (a : Action) (g : Fin 8) (l : List (Fin 24)) : Nat := (l.filter (strikesOn x dets a g)).length

theorem struckBy_cons (a : Action) (g : Fin 8) (i : Fin 24) (l : List (Fin 24)) :
    struckBy x dets a g (i :: l) = struckBy x dets a g l + (strikesOn x dets a g i).toNat := by
  unfold struckBy
  rw [List.filter_cons]
  split <;> simp_all

variable {x dets}

theorem overflowGroup_get (e : DetectorEntry) (groups : Regs Group 8) (g : Fin 8) :
    (overflowGroup e groups).get g =
      if e.action = .reduce ∧ e.group = g then (groups.get g).reduce
      else if e.action = .cut ∧ e.group = g then (groups.get g).cut else groups.get g := by
  unfold overflowGroup
  cases e.action with
  | note => simp
  | reduce => simp [Regs.get_edit]
  | cut => simp [Regs.get_edit]
  | unassigned => simp

/-- One detector handled: itself, the group that it strikes, and what the run remembers. -/
theorem runDetector_eq (r : GuardRun) (i : Fin 24) (hi : r.detectors.get i = dets i) :
    (∀ j, (r.detector x i).detectors.get j =
      if j = i then ((dets i).windowEnd (x.get i)).1 else r.detectors.get j) ∧
    (∀ g, (r.detector x i).groups.get g =
      if strikesOn x dets .reduce g i then (r.groups.get g).reduce
      else if strikesOn x dets .cut g i then (r.groups.get g).cut else r.groups.get g) ∧
    (∀ g, (r.detector x i).reduced.contains g = (r.reduced.contains g || strikesOn x dets .reduce g i)) ∧
    (r.detector x i).cuts = r.cuts ++ if strikes x dets .cut i then [(dets i).entry.group] else [] := by
  unfold GuardRun.detector strikesOn strikes
  rw [hi]
  dsimp only
  cases hover : ((dets i).windowEnd (x.get i)).2 with
  | false =>
    rw [if_neg Bool.false_ne_true]
    refine ⟨fun j => ?_, by simp, by simp, by simp⟩
    rw [Regs.get_put]
    simp only [eq_comm]
  | true =>
    rw [if_pos rfl]
    refine ⟨fun j => ?_, fun g => ?_, fun g => ?_, ?_⟩
    · rw [Regs.get_put]
      simp only [eq_comm]
    · dsimp only
      rw [overflowGroup_get]
      simp
    · by_cases ha : (dets i).entry.action = .reduce
      · simp [ha, Bool.beq_eq_decide_eq, eq_comm]
      · simp [ha]
    · by_cases ha : (dets i).entry.action = .cut
      · simp [ha]
      · simp [ha]

/-- A run of detectors, each met once. -/
theorem foldl_detectors (l : List (Fin 24)) (hl : l.Nodup) (r : GuardRun) (hr : ∀ i ∈ l, r.detectors.get i = dets i) :
    (∀ j, (l.foldl (GuardRun.detector x) r).detectors.get j =
      if j ∈ l then ((dets j).windowEnd (x.get j)).1 else r.detectors.get j) ∧
    (∀ g, (r.groups.get g).entry.floor ≤ 60 → (l.foldl (GuardRun.detector x) r).groups.get g =
      (r.groups.get g).struck (struckBy x dets .reduce g l) (struckBy x dets .cut g l)) ∧
    (∀ g, (l.foldl (GuardRun.detector x) r).reduced.contains g =
      (r.reduced.contains g || decide (struckBy x dets .reduce g l ≠ 0))) ∧
    (l.foldl (GuardRun.detector x) r).cuts =
      r.cuts ++ (l.filter (strikes x dets .cut)).map fun i => (dets i).entry.group := by
  induction l generalizing r with
  | nil => exact ⟨by simp, fun g _ => (struck_zero _).symm, by simp [struckBy], by simp⟩
  | cons i l ih =>
    obtain ⟨hnotin, hnodup⟩ := List.nodup_cons.1 hl
    obtain ⟨hd, hg, hreduced, hcuts⟩ := runDetector_eq (x := x) r i (hr i List.mem_cons_self)
    have hrest : ∀ j ∈ l, (r.detector x i).detectors.get j = dets j := fun j hj => by
      have hne : j ≠ i := fun e => hnotin (e ▸ hj)
      rw [hd, if_neg hne, hr j (List.mem_cons_of_mem _ hj)]
    obtain ⟨ihd, ihg, ihreduced, ihcuts⟩ := ih hnodup _ hrest
    rw [List.foldl_cons]
    refine ⟨fun j => ?_, fun g hfloor => ?_, fun g => ?_, ?_⟩
    · rw [ihd, hd]
      by_cases hj : j = i
      · subst hj
        simp [hnotin]
      · simp [hj]
    · have hreduce : strikesOn x dets .reduce g i = true → strikesOn x dets .cut g i = false := fun h => by
        simp_all [strikesOn, strikes]
      rw [ihg g (by rw [hg]; (repeat' split) <;> exact hfloor), hg, struckBy_cons, struckBy_cons]
      cases hr : strikesOn x dets .reduce g i with
      | true =>
        rw [if_pos rfl, hreduce hr]
        exact struck_reduce hfloor _ _
      | false =>
        rw [if_neg Bool.false_ne_true]
        cases hc : strikesOn x dets .cut g i with
        | true => exact struck_cut _ _ _
        | false => rfl
    · rw [ihreduced, hreduced, struckBy_cons]
      cases strikesOn x dets .reduce g i <;> simp
    · rw [ihcuts, hcuts, List.filter_cons]
      split <;> simp_all

variable (s : State)

/-- The detectors after a window end, each by itself. -/
theorem endWindow_detector (hw : s.inWindow = true) (i : Fin 24) : (endWindow s).sgd.detectors.get i =
    ((s.sgd.detectors.get i).windowEnd (s.ios.conditioned.get i)).1 := by
  obtain ⟨hd, _⟩ := foldl_detectors (x := s.ios.conditioned) (dets := s.sgd.detectors.get) (List.finRange 24)
    (List.nodup_finRange 24) ⟨s.sgd.detectors, s.sgd.groups, [], []⟩ (fun _ _ => rfl)
  rw [endWindow_sgd hw]
  unfold guardWindowEnd
  dsimp only
  rw [GuardRun.finish, Sgd.runDetectors, hd, if_pos (List.mem_finRange i)]

/-- The overflows on a group at the end of the window. -/
def endStrikes (a : Action) (g : Fin 8) : Nat :=
  struckBy s.ios.conditioned s.sgd.detectors.get a g (List.finRange 24)

/-- A group after a window end: the overflows, its recovery timer and its applied index (R96). -/
theorem endWindow_group (hw : s.inWindow = true) (g : Fin 8) (hfloor : (s.sgd.groups.get g).entry.floor ≤ 60) :
    (endWindow s).sgd.groups.get g =
      ((s.sgd.groups.get g).struck (endStrikes s .reduce g) (endStrikes s .cut g)).windowEnd
        (decide (endStrikes s .reduce g ≠ 0)) := by
  obtain ⟨_, hg, hreduced, _⟩ := foldl_detectors (x := s.ios.conditioned) (dets := s.sgd.detectors.get)
    (List.finRange 24) (List.nodup_finRange 24) ⟨s.sgd.detectors, s.sgd.groups, [], []⟩ (fun _ _ => rfl)
  rw [endWindow_sgd hw]
  show ((GuardRun.finish _ _).groups.get g) = _
  rw [GuardRun.finish, Regs.get_tab, Sgd.runDetectors, hreduced, hg g hfloor]
  rfl

theorem endWindow_cuts : (s.sgd.runDetectors s.ios.conditioned).cuts =
    ((List.finRange 24).filter (strikes s.ios.conditioned s.sgd.detectors.get .cut)).map
      fun i => (s.sgd.detectors.get i).entry.group := by
  obtain ⟨_, _, _, hcuts⟩ := foldl_detectors (x := s.ios.conditioned) (dets := s.sgd.detectors.get)
    (List.finRange 24) (List.nodup_finRange 24) ⟨s.sgd.detectors, s.sgd.groups, [], []⟩ (fun _ _ => rfl)
  exact hcuts.trans (List.nil_append _)

/-- The recovery timer and the applied index of a group that no REDUCE has restarted, and of one it has (R108, R109). -/
theorem groupWindowEnd_eq (g : Group) (restarted : Bool) : (g.windowEnd restarted).entry = g.entry ∧
    (g.windowEnd restarted).applied = stepToward g.applied (g.windowEnd restarted).target ∧
    (restarted = true → (g.windowEnd restarted).timer = g.timer ∧ (g.windowEnd restarted).target = g.target) ∧
    (restarted = false → g.timer + 1 = g.entry.recovery * 256 → (g.windowEnd restarted).timer = 0 ∧
      (g.windowEnd restarted).target = if 1 ≤ g.target ∧ g.target ≤ 60 then g.target - 1 else g.target) ∧
    (restarted = false → g.timer + 1 ≠ g.entry.recovery * 256 → (g.windowEnd restarted).timer = g.timer + 1 ∧
      (g.windowEnd restarted).target = g.target) := by
  unfold Group.windowEnd Group.stepRecovery Group.recover
  cases restarted with
  | true => simp
  | false =>
    by_cases h : g.timer + 1 = g.entry.recovery * 256
    · simp [h]
    · simp [h]

/-! ### The faults of a window end -/

/-- The Command Unit after a run of faults with one frame number. -/
def Cmu.raisedAll (k : Cmu) (number : BitVec 8) (faults : List (FaultKind × Nat)) : Cmu :=
  faults.foldl (fun u f => u.raised f.1 number f.2) k

/-- A record that holds a fault counts every one of a run (R172). -/
theorem raisedAll_held (faults : List (FaultKind × Nat)) (number : BitVec 8) (k : Cmu) (h : k.fault.isSome = true)
    (hlater : k.laterCount ≤ 255) : (k.raisedAll number faults).fault = k.fault ∧
      (k.raisedAll number faults).laterCount = min (k.laterCount + faults.length) 255 := by
  induction faults generalizing k with
  | nil => exact ⟨rfl, (min_eq_left hlater).symm⟩
  | cons f faults ih =>
    have hone : k.raised f.1 number f.2 = { k with laterCount := min (k.laterCount + 1) 255 } := by
      simp [Cmu.raised, h]
    obtain ⟨hf, hl⟩ := ih (k.raised f.1 number f.2) (by rw [hone]; exact h) (by rw [hone]; exact min_le_right _ _)
    rw [hone] at hf hl
    simp only [Cmu.raisedAll, List.foldl_cons, hone] at hf hl ⊢
    refine ⟨hf, hl.trans ?_⟩
    simp only [List.length_cons]
    omega

/-- An empty record captures the first of a run and counts the others (R172). -/
theorem raisedAll_captured (f : FaultKind × Nat) (faults : List (FaultKind × Nat)) (number : BitVec 8) (k : Cmu)
    (h : k.fault = none) (hlater : k.laterCount ≤ 255) :
    (k.raisedAll number (f :: faults)).fault = some ⟨f.1, number, f.2⟩ ∧
      (k.raisedAll number (f :: faults)).laterCount = min (k.laterCount + faults.length) 255 := by
  have hone : k.raised f.1 number f.2 = { k with fault := some ⟨f.1, number, f.2⟩ } := by simp [Cmu.raised, h]
  obtain ⟨hf, hl⟩ := raisedAll_held faults number (k.raised f.1 number f.2) (by rw [hone]; rfl) (by rw [hone]; exact hlater)
  rw [hone] at hf hl
  unfold Cmu.raisedAll at hf hl ⊢
  rw [List.foldl_cons, hone]
  exact ⟨hf, hl⟩

/-- The fault of the clipped buses, if there is one (R26). -/
def clipFaults (clipped : List (Fin 16)) : List (FaultKind × Nat) := (clipped.take 1).map fun b => (.busClip, b.val)

/-- The faults of the CUT overflows (R105, R106). -/
def cutFaults (cuts : List (Fin 8)) : List (FaultKind × Nat) := cuts.map fun g => (.guardCut, g.val)

theorem raiseClip_eq (clipped : List (Fin 16)) (s : State) :
    raiseClip clipped s = { s with cmu := s.cmu.raisedAll s.rtx.number (clipFaults clipped) } := by
  cases clipped with
  | nil => rfl
  | cons b _ => exact raise_eq _ _ _

theorem raiseCuts_eq (cuts : List (Fin 8)) (s : State) :
    raiseCuts cuts s = { s with cmu := s.cmu.raisedAll s.rtx.number (cutFaults cuts) } := by
  induction cuts generalizing s with
  | nil => rfl
  | cons g cuts ih =>
    have h := ih (raise .guardCut g.val s)
    rw [raise_eq] at h
    unfold raiseCuts at h ⊢
    rw [List.foldl_cons, raise_eq]
    exact h

/-- The faults of a window end reach the record in one of two orders (R172). -/
theorem raiseWindowFaults_order (clipped : List (Fin 16)) (cuts : List (Fin 8)) (s : State) :
    (raiseWindowFaults clipped cuts s).cmu = s.cmu.raisedAll s.rtx.number (clipFaults clipped ++ cutFaults cuts) ∨
    (raiseWindowFaults clipped cuts s).cmu = s.cmu.raisedAll s.rtx.number (cutFaults cuts ++ clipFaults clipped) := by
  have happend : ∀ (k : Cmu) (n : BitVec 8) (a b : List (FaultKind × Nat)),
      (k.raisedAll n a).raisedAll n b = k.raisedAll n (a ++ b) := fun k n a b => List.foldl_append.symm
  unfold raiseWindowFaults
  dsimp only
  split
  · split
    · left
      rw [raiseClip_eq, raiseCuts_eq]
      exact happend _ _ _ _
    · right
      rw [raiseCuts_eq, raiseClip_eq]
      exact happend _ _ _ _
  · left
    rw [raiseClip_eq, raiseCuts_eq]
    exact happend _ _ _ _

end Sys2Proof.Machine
end

section
/-! The guard at a window end as its row tells it (R97 to R109, R172). -/

namespace Sys2Proof.Machine

variable {s : State}

theorem debounceWindows_eq (e : DetectorEntry) : [16, 64, 256, 1024].getD e.debounce.val 0 = e.debounceWindows := by
  have h : ∀ n : Fin 4, [16, 64, 256, 1024].getD n.val 0 = 16 * 4 ^ n.val := by decide
  exact h e.debounce

theorem tripLimit_eq (e : DetectorEntry) : [1, 2, 4, 8, 16, 32, 64, 128].getD e.limit.val 0 = e.tripLimit := by
  have h : ∀ n : Fin 8, [1, 2, 4, 8, 16, 32, 64, 128].getD n.val 0 = 2 ^ n.val := by decide
  exact h e.limit

/-- The rise condition in the levels that the window end leaves (R98). -/
theorem rises_eq {d : Detector} (x : Sample) (h : d.entry.enable = true) : d.rises x =
    (decide (lev (d.windowEnd x).1.slow + max 0 (min ((d.entry.threshold : Int) + d.entry.trim) 111) ≤
      lev (d.windowEnd x).1.fast) && decide (-240 ≤ lev (d.windowEnd x).1.fast)) := by
  obtain ⟨_, hfast, hslow, _⟩ := windowEnd_follows d x h
  rw [hfast, hslow, Bool.eq_iff_iff]
  simp only [Detector.rises, Detector.rising, Detector.follow, DetectorEntry.rise, Bool.and_eq_true, decide_eq_true_eq]
  exact and_congr decide_eq_true_iff decide_eq_true_iff

/-- What one detector's window end makes of it, in the fields of R97 to R101. -/
theorem detector_windowEnd {d : Detector} (x : Sample) (h : d.entry.enable = true) :
    (d.windowEnd x).1.entry = d.entry ∧
    ((d.windowEnd x).1.fast : Int) = d.fast + (x.toInt * x.toInt - d.fast) / 64 ∧
    ((d.windowEnd x).1.slow : Int) = d.slow + (x.toInt * x.toInt - d.slow) / 16384 ∧
    (d.windowEnd x).1.debounce = d.debounced x := by
  obtain ⟨hentry, hfast, hslow, hdebounce⟩ := windowEnd_follows d x h
  rw [hfast, hslow]
  exact ⟨hentry, trackEnvelope_eq _ _ (by decide), trackEnvelope_eq _ _ (by decide), hdebounce⟩

/-- The fault record after a window end, by the faults of the window in either order (R26, R105, R106, R172). -/
theorem endWindow_record (hw : s.inWindow = true) (hlater : s.cmu.laterCount ≤ 255) {cuts : List (Fin 8)}
    (hcuts : (s.sgd.runDetectors s.ios.conditioned).cuts = cuts) :
    (clippedBuses s = [] ∧ cuts = [] → (endWindow s).cmu.fault = s.cmu.fault ∧
      (endWindow s).cmu.laterCount = s.cmu.laterCount) ∧
    (s.cmu.fault.isSome = true → (endWindow s).cmu.fault = s.cmu.fault ∧ (endWindow s).cmu.laterCount =
      min (s.cmu.laterCount + ((if clippedBuses s = [] then 0 else 1) + cuts.length)) 255) ∧
    (s.cmu.fault = none → ¬(clippedBuses s = [] ∧ cuts = []) →
      (endWindow s).cmu.laterCount =
        min (s.cmu.laterCount + ((if clippedBuses s = [] then 0 else 1) + cuts.length - 1)) 255 ∧
      ((∃ b rest, clippedBuses s = b :: rest ∧ (endWindow s).cmu.fault = some ⟨.busClip, s.rtx.number, b.val⟩) ∨
        ∃ g rest, cuts = g :: rest ∧ (endWindow s).cmu.fault = some ⟨.guardCut, s.rtx.number, g.val⟩)) := by
  have horder := raiseWindowFaults_order (clippedBuses s) cuts
    { s with draws := (busStage (busSamples s) (tapWindowEnd s)).draws }
  rw [endWindow_faults hw, hcuts]
  generalize (raiseWindowFaults (clippedBuses s) cuts _).cmu = k at horder ⊢
  have hclips : (clipFaults (clippedBuses s)).length = if clippedBuses s = [] then 0 else 1 := by
    cases clippedBuses s <;> rfl
  have hcutsLength : (cutFaults cuts).length = cuts.length := List.length_map _
  refine ⟨fun ⟨hclip, hcut⟩ => ?_, fun hheld => ?_, fun hempty hsome => ?_⟩
  · rw [hclip, hcut] at horder
    rcases horder with e | e <;> rw [e] <;> exact ⟨rfl, rfl⟩
  · rcases horder with e | e <;> rw [e]
    · obtain ⟨hf, hl⟩ := raisedAll_held (clipFaults (clippedBuses s) ++ cutFaults cuts) s.rtx.number s.cmu hheld hlater
      rw [List.length_append, hclips, hcutsLength] at hl
      exact ⟨hf, hl⟩
    · obtain ⟨hf, hl⟩ := raisedAll_held (cutFaults cuts ++ clipFaults (clippedBuses s)) s.rtx.number s.cmu hheld hlater
      rw [List.length_append, hclips, hcutsLength, Nat.add_comm cuts.length] at hl
      exact ⟨hf, hl⟩
  · have hfirst : ∀ f rest, k = s.cmu.raisedAll s.rtx.number (f :: rest) →
        rest.length + 1 = (if clippedBuses s = [] then 0 else 1) + cuts.length →
        k.fault = some ⟨f.1, s.rtx.number, f.2⟩ ∧ k.laterCount =
          min (s.cmu.laterCount + ((if clippedBuses s = [] then 0 else 1) + cuts.length - 1)) 255 := by
      intro f rest e hlen
      obtain ⟨hf, hl⟩ := raisedAll_captured f rest s.rtx.number s.cmu hempty hlater
      rw [e, ← hlen]
      exact ⟨hf, hl⟩
    cases hclip : clippedBuses s with
    | nil =>
      cases hcut : cuts with
      | nil => exact absurd ⟨hclip, hcut⟩ hsome
      | cons g rest =>
        rw [hclip, hcut] at horder
        have e : k = s.cmu.raisedAll s.rtx.number ((.guardCut, g.val) :: cutFaults rest) := by
          rcases horder with e | e
          · exact e
          · exact e.trans (congrArg (s.cmu.raisedAll s.rtx.number) (List.append_nil _))
        obtain ⟨hf, hl⟩ := hfirst _ _ e (by simp [hclip, hcut, cutFaults])
        rw [hclip, hcut] at hl
        exact ⟨hl, .inr ⟨g, rest, rfl, hf⟩⟩
    | cons b more =>
      rw [hclip] at horder
      rcases horder with e | e
      · obtain ⟨hf, hl⟩ := hfirst (.busClip, b.val) (cutFaults cuts) e (by simp [hclip, cutFaults]; omega)
        rw [hclip] at hl
        exact ⟨hl, .inl ⟨b, more, rfl, hf⟩⟩
      · cases hcut : cuts with
        | nil =>
          rw [hcut] at e
          obtain ⟨hf, hl⟩ := hfirst (.busClip, b.val) [] e (by simp [hclip, hcut])
          rw [hclip, hcut] at hl
          exact ⟨hl, .inl ⟨b, more, rfl, hf⟩⟩
        | cons g rest =>
          rw [hcut] at e
          obtain ⟨hf, hl⟩ := hfirst (.guardCut, g.val) (cutFaults rest ++ [(FaultKind.busClip, b.val)]) e
            (by simp [hclip, hcut, cutFaults]; omega)
          rw [hclip, hcut] at hl
          exact ⟨hl, .inr ⟨g, rest, rfl, hf⟩⟩

/-- Settles O43: each detector by itself, each group by the overflows on it, and the faults of the window. -/
theorem windowEndStepsTheGuard : Obligations.WindowEndStepsTheGuard := by
  intro s hrows hw
  have hclear : (endWindow s).sgd.clearDetectors = s.sgd.clearDetectors ∧
      (endWindow s).sgd.clearGroups = s.sgd.clearGroups := by
    rw [endWindow_sgd hw]
    unfold guardWindowEnd GuardRun.finish
    exact ⟨rfl, rfl⟩
  refine ⟨_, exec_windowEnd hrows, ?_, hclear⟩
  intro rises limit trips latched last overflows
  have hlimit : ∀ i, limit i = (s.sgd.detectors.get i).entry.debounceWindows := fun i => debounceWindows_eq _
  have hrises : ∀ i, (s.sgd.detectors.get i).entry.enable = true →
      rises i = (s.sgd.detectors.get i).rises (s.ios.conditioned.get i) := fun i hon => by
    rw [rises_eq _ hon, ← endWindow_detector s hw]
  have hlatched : ∀ i, latched i = (s.sgd.detectors.get i).latched := fun i => rfl
  have hlast : ∀ i, last i = (s.sgd.detectors.get i).last := fun i => by
    show decide (_ ≤ _) = _
    rw [tripLimit_eq, Detector.last]
  have htrips : ∀ i, (s.sgd.detectors.get i).entry.enable = true →
      trips i = (s.sgd.detectors.get i).tripped (s.ios.conditioned.get i) := fun i hon => by
    show (rises i && _ == limit i) = _
    rw [hrises i hon, hlimit, Detector.tripped]
  have hover : ∀ a i, overflows a i = strikes s.ios.conditioned s.sgd.detectors.get a i := fun a i => by
    show ((s.sgd.detectors.get i).entry.enable && trips i && !latched i && last i && _) = _
    rw [strikes]
    cases hon : (s.sgd.detectors.get i).entry.enable with
    | false => simp [windowEnd_off _ _ hon]
    | true => rw [windowEnd_overflow _ _ hon, htrips i hon, hlatched, hlast, Bool.true_and]
  clear_value rises limit trips latched last overflows
  refine ⟨fun i => ⟨fun hoff => ?_, fun hon => ?_⟩, fun g => ?_, ?_⟩
  · rw [endWindow_detector s hw, windowEnd_off _ _ hoff]
  · obtain ⟨hentry, hfast, hslow, hdebounce⟩ := detector_windowEnd (s.ios.conditioned.get i) hon
    rw [endWindow_detector s hw, htrips i hon, hrises i hon, hlimit, hlatched, hlast]
    exact ⟨hentry, hfast, hslow, hdebounce, windowEnd_trips _ _ hon, windowEnd_forgives _ _ hon⟩
  · intro d u on target hfloor
    have hon : ∀ a, on a = endStrikes s a g := fun a => by
      show (List.filter (fun i => overflows a i && _) _).length = _
      simp only [hover]
      rfl
    have hu : u = (d.struck (on .reduce) (on .cut)).windowEnd (decide (on .reduce ≠ 0)) := by
      rw [hon, hon]
      exact endWindow_group s hw g hfloor
    have htarget : (d.struck (on .reduce) (on .cut)).target = target := rfl
    clear_value u
    obtain ⟨hentry, happlied, hrestarted, hexpires, hsteps⟩ :=
      groupWindowEnd_eq (d.struck (on .reduce) (on .cut)) (decide (on .reduce ≠ 0))
    rw [← hu, htarget] at hrestarted hexpires hsteps
    rw [← hu] at hentry happlied
    have htimer : on .reduce = 0 → (d.struck (on .reduce) (on .cut)).timer = d.timer := fun h => by
      simp [Group.struck, h]
    refine ⟨hentry, happlied, fun h => ?_, fun h hdue => ?_, fun h hdue => ?_⟩
    · obtain ⟨ht, hg⟩ := hrestarted (by simpa using h)
      exact ⟨ht.trans (by simp [Group.struck, h]), hg⟩
    · exact hexpires (by simp [h]) (by rw [htimer h]; exact hdue)
    · obtain ⟨ht, hg⟩ := hsteps (by simp [h]) (by rw [htimer h]; exact hdue)
      exact ⟨ht.trans (by rw [htimer h]), hg⟩
  · intro cuts clipped faults hlater
    have hclipped : clipped = clippedBuses s := (clippedBuses_eq s).symm
    have hcuts : (s.sgd.runDetectors s.ios.conditioned).cuts = cuts.map fun i => (s.sgd.detectors.get i).entry.group := by
      rw [endWindow_cuts]
      rw [← funext (hover .cut)]
    obtain ⟨hnone, hheld, hcaptured⟩ := endWindow_record hw hlater hcuts
    rw [← hclipped, List.map_eq_nil_iff] at hnone hcaptured
    rw [← hclipped, List.length_map] at hheld
    rw [List.length_map] at hcaptured
    have hfaults : faults = 0 ↔ clipped = [] ∧ cuts = [] := by
      show (if clipped = [] then 0 else 1) + cuts.length = 0 ↔ _
      rw [← List.length_eq_zero_iff (l := cuts)]
      split <;> simp_all
    refine ⟨fun h => hnone (hfaults.1 h), hheld, fun hempty h => ?_⟩
    obtain ⟨hl, hf⟩ := hcaptured hempty (fun hboth => h (hfaults.2 hboth))
    refine ⟨hl, hf.imp id fun ⟨g, rest, hg, hf⟩ => ?_⟩
    obtain ⟨i, more, hi, rfl, _⟩ := List.map_eq_cons_iff.1 hg
    exact ⟨i, more, hi, hf⟩

end Sys2Proof.Machine
end

section
/-! A run of line writes: each enabled line is written once, at a position of its own, and moves on (R37, R38, R51, R58,
R62). -/

namespace Sys2Proof.Machine

/-- The position after the write position, round the line. -/
def Line.following (l : Line) : Nat := (l.wp + 1) % l.length

/-- A line once it has been written: its write position and its fill count moved on (R36 to R38). -/
def Line.written (l : Line) : Line := { l with wp := l.following, fill := min (l.fill + 1) l.length }

/-- The write of one line with a sample: an input line is written where its write position then stands, and a bus line
where it stood, which `pos` says. -/
def lineStep (pos : Line → Nat) (k : Fin 40) (x : Sample) (s : State) : State :=
  if (s.lines.get k).rows = 0 then s
  else { writeLine (s.lines.get k) (pos (s.lines.get k)) x s with lines := s.lines.put k (s.lines.get k).written }

variable {ι : Type} (pos : Line → Nat) (key : ι → Fin 40) (sample : ι → Sample)

/-- The writes of a list of lines, in order. -/
def runWrites (l : List ι) (s : State) : State := l.foldl (fun t i => lineStep pos (key i) (sample i) t) s

/-- The address that a line is written at. -/
def writeAddress (s : State) (k : Fin 40) : Nat := (s.lines.get k).address (pos (s.lines.get k))

theorem lineStep_off {k : Fin 40} {s : State} (x : Sample) (h : (s.lines.get k).rows = 0) : lineStep pos k x s = s :=
  if_pos h

theorem lineStep_on {k : Fin 40} {s : State} (x : Sample) (h : (s.lines.get k).rows ≠ 0) : lineStep pos k x s =
    { writeLine (s.lines.get k) (pos (s.lines.get k)) x s with lines := s.lines.put k (s.lines.get k).written } :=
  if_neg h

theorem lineStep_other {k j : Fin 40} (h : k ≠ j) (x : Sample) (s : State) :
    (lineStep pos k x s).lines.get j = s.lines.get j := by
  unfold lineStep
  split
  · rfl
  · exact Regs.get_put_ne _ _ h

theorem lineStep_frame (k : Fin 40) (x : Sample) (s : State) : (lineStep pos k x s).lapse = s.lapse ∧
    (lineStep pos k x s).ios = s.ios ∧ (lineStep pos k x s).dmc.timing = s.dmc.timing := by
  unfold lineStep
  split <;> exact ⟨rfl, rfl, rfl⟩

theorem runWrites_frame (l : List ι) (s : State) : (runWrites pos key sample l s).lapse = s.lapse ∧
    (runWrites pos key sample l s).ios = s.ios := by
  induction l generalizing s with
  | nil => exact ⟨rfl, rfl⟩
  | cons i l ih =>
    obtain ⟨hlapse, hios⟩ := ih (lineStep pos (key i) (sample i) s)
    obtain ⟨hlapse', hios', _⟩ := lineStep_frame pos (key i) (sample i) s
    exact ⟨hlapse.trans hlapse', hios.trans hios'⟩

variable {key}

/-- The lines that a run has still to write stand as they did. -/
theorem lineStep_rest {i : ι} {l : List ι} (hnodup : ((i :: l).map key).Nodup) (x : Sample) (s : State) {j : ι} (hj : j ∈ l) :
    (lineStep pos (key i) x s).lines.get (key j) = s.lines.get (key j) := by
  rw [List.map_cons, List.nodup_cons] at hnodup
  have hne : key i ≠ key j := fun e => hnodup.1 (by rw [e]; exact List.mem_map_of_mem hj)
  exact lineStep_other pos hne x s

/-- Every enabled line of a run has moved on, and every other line stands. -/
theorem runWrites_lines {l : List ι} (hnodup : (l.map key).Nodup) (s : State) (j : Fin 40) :
    (runWrites pos key sample l s).lines.get j =
      if j ∈ l.map key ∧ (s.lines.get j).rows ≠ 0 then (s.lines.get j).written else s.lines.get j := by
  induction l generalizing s with
  | nil => exact (if_neg (by simp)).symm
  | cons i l ih =>
    have htail := (List.nodup_cons.1 (by simpa using hnodup : (key i :: l.map key).Nodup))
    have h := ih htail.2 (lineStep pos (key i) (sample i) s)
    refine h.trans ?_
    by_cases hj : j = key i
    · subst hj
      rw [if_neg (fun h => htail.1 h.1)]
      by_cases hoff : (s.lines.get (key i)).rows = 0
      · rw [lineStep_off pos _ hoff, if_neg (fun h => h.2 hoff)]
      · rw [lineStep_on pos _ hoff, if_pos ⟨by simp, hoff⟩]
        exact Regs.get_put_same _ _ _
    · rw [lineStep_other pos (Ne.symm hj)]
      simp [hj]

/-- A word that no write of a run goes to stands. -/
theorem runWrites_find_ne {l : List ι} (hnodup : (l.map key).Nodup) (s : State) {a : Nat}
    (h : ∀ i ∈ l, (s.lines.get (key i)).rows ≠ 0 → a ≠ writeAddress pos s (key i)) :
    Memory.find (runWrites pos key sample l s).memory a = Memory.find s.memory a := by
  induction l generalizing s with
  | nil => rfl
  | cons i l ih =>
    have htail := (List.nodup_cons.1 (by simpa using hnodup : (key i :: l.map key).Nodup))
    refine (ih htail.2 (lineStep pos (key i) (sample i) s) fun j hj hon => ?_).trans ?_
    · have hrest := lineStep_rest pos hnodup (sample i) s hj
      rw [hrest] at hon
      unfold writeAddress
      rw [hrest]
      exact h j (List.mem_cons_of_mem _ hj) hon
    · by_cases hoff : (s.lines.get (key i)).rows = 0
      · rw [lineStep_off pos _ hoff]
      · rw [lineStep_on pos _ hoff]
        exact Memory.find_write_ne _ _ _ (h i List.mem_cons_self hoff)

/-- The word that a run writes for an enabled line holds that line's sample. -/
theorem runWrites_find_same {l : List ι} (hnodup : (l.map key).Nodup) (s : State)
    (hapart : ∀ i ∈ l, ∀ j ∈ l, key i ≠ key j → (s.lines.get (key i)).rows ≠ 0 → (s.lines.get (key j)).rows ≠ 0 →
      writeAddress pos s (key i) ≠ writeAddress pos s (key j))
    {i : ι} (hi : i ∈ l) (hon : (s.lines.get (key i)).rows ≠ 0) :
    Memory.find (runWrites pos key sample l s).memory (writeAddress pos s (key i)) =
      some ⟨writeAddress pos s (key i), sample i, s.lapse.windows⟩ := by
  induction l generalizing s with
  | nil => cases hi
  | cons k l ih =>
    have htail := (List.nodup_cons.1 (by simpa using hnodup : (key k :: l.map key).Nodup))
    have hrest : ∀ j ∈ l, (lineStep pos (key k) (sample k) s).lines.get (key j) = s.lines.get (key j) :=
      fun j hj => lineStep_rest pos hnodup (sample k) s hj
    have haddress : ∀ j ∈ l, writeAddress pos (lineStep pos (key k) (sample k) s) (key j) = writeAddress pos s (key j) :=
      fun j hj => by rw [writeAddress, hrest j hj, writeAddress]
    rcases List.mem_cons.1 hi with rfl | hi'
    · have hne : ∀ j ∈ l, key i ≠ key j := fun j hj e => htail.1 (e ▸ List.mem_map_of_mem hj)
      refine (runWrites_find_ne pos sample htail.2 (lineStep pos (key i) (sample i) s) fun j hj hj' => ?_).trans ?_
      · rw [haddress j hj]
        rw [hrest j hj] at hj'
        exact hapart i List.mem_cons_self j (List.mem_cons_of_mem _ hj) (hne j hj) hon hj'
      · rw [lineStep_on pos _ hon]
        exact Memory.find_write_same _ _ _ _
    · have h := ih htail.2 (lineStep pos (key k) (sample k) s) (fun a ha b hb hab hona honb => by
        rw [haddress a ha, haddress b hb]
        rw [hrest a ha] at hona
        rw [hrest b hb] at honb
        exact hapart a (List.mem_cons_of_mem _ ha) b (List.mem_cons_of_mem _ hb) hab hona honb) hi'
        (by rw [hrest i hi']; exact hon)
      rw [haddress i hi', (lineStep_frame pos (key k) (sample k) s).1] at h
      exact h

/-- The memory addresses that a run of writes goes to, in order. -/
def writeAddresses (key : ι → Fin 40) (l : List ι) (s : State) : List Nat :=
  l.filterMap fun i => if (s.lines.get (key i)).rows = 0 then none else some (writeAddress pos s (key i))

/-- A run of writes costs what its accesses cost, each from the row state that the last has left (R51, R58, R62). -/
theorem runWrites_dmc {l : List ι} (hnodup : (l.map key).Nodup) (s : State) : (runWrites pos key sample l s).dmc =
    { s.dmc with
      spend := s.dmc.spend + (s.dmc.timing.runCost .write s.dmc.rowState (writeAddresses pos key l s)).1
      openRow := (s.dmc.timing.runCost .write s.dmc.rowState (writeAddresses pos key l s)).2.openRow
      direction := (s.dmc.timing.runCost .write s.dmc.rowState (writeAddresses pos key l s)).2.direction } := by
  induction l generalizing s with
  | nil => rfl
  | cons i l ih =>
    have htail := (List.nodup_cons.1 (by simpa using hnodup : (key i :: l.map key).Nodup))
    have hwrites : writeAddresses pos key l (lineStep pos (key i) (sample i) s) = writeAddresses pos key l s := by
      refine List.filterMap_congr fun j hj => ?_
      rw [writeAddress, lineStep_rest pos hnodup (sample i) s hj, writeAddress]
    refine (ih htail.2 (lineStep pos (key i) (sample i) s)).trans ?_
    rw [hwrites]
    by_cases hoff : (s.lines.get (key i)).rows = 0
    · have hnil : writeAddresses pos key (i :: l) s = writeAddresses pos key l s := by simp [writeAddresses, hoff]
      rw [lineStep_off pos _ hoff, hnil]
    · have hcons : writeAddresses pos key (i :: l) s = writeAddress pos s (key i) :: writeAddresses pos key l s := by
        simp [writeAddresses, hoff]
      rw [lineStep_on pos _ hoff, hcons]
      simp only [Timing.runCost, ← Nat.add_assoc]
      rfl

end Sys2Proof.Machine
end

section
/-! The bus lines at a window end (R38, R42, R62), and the cost of the accesses of a window (R51 to R62). -/

namespace Sys2Proof.Machine

variable {s : State}

/-- Two enabled lines are written at different addresses, where each is written inside itself. -/
theorem writeAddress_ne {pos : Line → Nat} (hpos : ∀ l : Line, l.rows ≠ 0 → l.wp < l.length → pos l < l.length)
    (h : LinesOk s.lines) {j k : Fin 40} (hne : j ≠ k) (hj : (s.lines.get j).rows ≠ 0) (hk : (s.lines.get k).rows ≠ 0) :
    writeAddress pos s j ≠ writeAddress pos s k := by
  obtain ⟨hlines, hapart⟩ := h
  obtain ⟨_, _, _, _, hwpJ⟩ := hlines j
  obtain ⟨_, _, _, _, hwpK⟩ := hlines k
  have hposJ := hpos _ hj (hwpJ hj)
  have hposK := hpos _ hk (hwpK hk)
  have happart := hapart j k hne hj hk
  unfold writeAddress Line.address
  unfold Line.length at hposJ hposK
  omega

/-- A word written at this count of windows reads back. -/
theorem readSample_of_find {m : Memory} {l : Lapse} {a : Nat} {x : Sample} (h : Memory.find m a = some ⟨a, x, l.windows⟩) :
    readSample m l a = x := by
  have hhold : longestHold l.windows l.windows l.served ≤ Config.retention :=
    (longestHold_le ..).trans (by simp)
  simp [readSample, h, DelayCell.kept, hhold]

/-! ### The bus lines -/

/-- The buses written at a window end: all, but for those that a clear reaches first (R62). -/
def writtenBuses (s : State) : List (Fin 16) := (List.finRange 16).filter fun b => !clearedFirst s b

theorem writtenBuses_all (h : swapClearsHere s = false) : writtenBuses s = List.finRange 16 := by
  simp [writtenBuses, clearedFirst, h]

theorem busLine_injective : Function.Injective busLine := fun a b h => by
  have := congrArg Fin.val h
  rw [busLine_val, busLine_val] at this
  exact Fin.ext (by omega)

theorem writtenBuses_nodup (s : State) : ((writtenBuses s).map busLine).Nodup :=
  ((List.nodup_finRange 16).filter _).map busLine_injective

theorem busStage_eq (x : Regs Sample 16) (s : State) : ∃ draws, busStage x s =
    { runWrites Line.wp busLine x.get (writtenBuses s) s with draws := draws } := by
  unfold busStage
  dsimp only
  split <;> exact ⟨_, rfl⟩

/-- The lines after a window end. -/
theorem endWindow_lines_eq (hw : s.inWindow = true) : (endWindow s).lines =
    if swapsHere s = true ∧ tailClear (s.tables.bank s.scc.active.other).header = true then
      clearBusLines (busStage (busSamples s) (tapWindowEnd s)).lines
    else (busStage (busSamples s) (tapWindowEnd s)).lines := by
  cases h : swapsHere s with
  | true =>
    rw [(endWindow_swaps hw h).2.2]
    simp
  | false =>
    rw [(endWindow_stays hw h).2.2]
    simp

theorem busStage_lines_get (s : State) (i : Fin 40) : (busStage (busSamples s) (tapWindowEnd s)).lines.get i =
    if i ∈ (writtenBuses (tapWindowEnd s)).map busLine ∧ (s.lines.get i).rows ≠ 0 then (s.lines.get i).written
    else s.lines.get i := by
  obtain ⟨_, e⟩ := busStage_eq (busSamples s) (tapWindowEnd s)
  rw [e]
  exact runWrites_lines Line.wp _ (writtenBuses_nodup _) (tapWindowEnd s) i

theorem not_mem_busLine {i : Fin 40} (h : i.val < 24) (l : List (Fin 16)) : i ∉ l.map busLine := fun hi => by
  obtain ⟨b, _, hb⟩ := List.mem_map.1 hi
  have := congrArg Fin.val hb
  rw [busLine_val] at this
  omega

/-- A window end leaves the input lines (R42, R62). -/
theorem endWindow_inputLine (hw : s.inWindow = true) {i : Fin 40} (h : i.val < 24) :
    (endWindow s).lines.get i = s.lines.get i := by
  have hstage : (busStage (busSamples s) (tapWindowEnd s)).lines.get i = s.lines.get i := by
    rw [busStage_lines_get, if_neg fun hi => not_mem_busLine h _ hi.1]
  rw [endWindow_lines_eq hw]
  split
  · rw [clearBusLines_get, if_pos h, hstage]
  · exact hstage

/-- A bus line after a window end at which no fade clears it: written where it is enabled, and then emptied by a swap
that is due under CLEAR. -/
theorem endWindow_busLine (hw : s.inWindow = true) (hclears : swapClearsHere s = false) (b : Fin 16) : (endWindow s).lines.get (busLine b) =
      if s.scc.swapDue && tailClear (s.tables.bank s.scc.active.other).header then (s.lines.get (busLine b)).cleared
      else if (s.lines.get (busLine b)).rows = 0 then s.lines.get (busLine b) else (s.lines.get (busLine b)).written := by
  have hstage : (busStage (busSamples s) (tapWindowEnd s)).lines.get (busLine b) =
      if (s.lines.get (busLine b)).rows = 0 then s.lines.get (busLine b) else (s.lines.get (busLine b)).written := by
    rw [busStage_lines_get, writtenBuses_all (s := tapWindowEnd s) hclears]
    by_cases hoff : (s.lines.get (busLine b)).rows = 0
    · rw [if_neg (fun h => h.2 hoff), if_pos hoff]
    · rw [if_pos ⟨List.mem_map_of_mem (List.mem_finRange b), hoff⟩, if_neg hoff]
  have hswap : (swapsHere s = true ∧ tailClear (s.tables.bank s.scc.active.other).header = true) ↔
      (s.scc.swapDue && tailClear (s.tables.bank s.scc.active.other).header) = true := by
    unfold swapsHere
    cases hd : s.scc.swapDue with
    | true => simp
    | false =>
      simp only [Bool.or_false, Bool.false_and, Bool.false_eq_true, iff_false, Bool.and_eq_true]
      rintro ⟨⟨hend, ht⟩, htail⟩
      have : swapClearsHere s = true := by
        unfold swapClearsHere
        unfold swapTarget at ht
        simp_all
      rw [hclears] at this
      cases this
  rw [endWindow_lines_eq hw]
  simp only [hswap]
  split
  · rw [clearBusLines_get, if_neg (by rw [busLine_val]; omega), Line.cleared, hstage, Line.cleared]
    split <;> rfl
  · exact hstage

/-- Settles O42: the bus lines and the words of the delay memory after a window end. -/
theorem windowEndWritesTheBuses : Obligations.WindowEndWritesTheBuses := by
  intro s hrows hw hinv
  have hlines : LinesOk s.lines := ((linesInv_iff s).1 hinv).2
  obtain ⟨_, hstage⟩ := busStage_eq (busSamples s) (tapWindowEnd s)
  have hmemory : (endWindow s).memory =
      (runWrites Line.wp busLine (busSamples s).get (writtenBuses (tapWindowEnd s)) (tapWindowEnd s)).memory := by
    rw [endWindow_memory hw, hstage]
  refine ⟨_, exec_windowEnd hrows, fun i hi => endWindow_inputLine hw hi, fun a ha => ?_, fun hclears _ b i hi => ?_,
    fun hclears _ i hi => ?_⟩
  · rw [hmemory]
    exact runWrites_find_ne Line.wp _ (writtenBuses_nodup _) (tapWindowEnd s) fun b _ hon =>
      ha (busLine b) (by rw [busLine_val]; omega) hon
  · obtain rfl : i = busLine b := Fin.ext (by rw [hi, busLine_val])
    have hline := endWindow_busLine hw hclears b
    intro l cleared
    refine ⟨fun hoff => ?_, fun hon => ⟨?_, ?_⟩⟩
    · rw [hline, if_pos hoff]
      rfl
    · rw [hline, if_neg hon]
      rfl
    · have hfind := runWrites_find_same Line.wp (busSamples s).get (writtenBuses_nodup (tapWindowEnd s)) (tapWindowEnd s)
        (fun i _ j _ hne hi hj => writeAddress_ne (fun _ _ h => h) hlines hne hi hj) (i := b)
        (by rw [writtenBuses_all (s := tapWindowEnd s) hclears]; exact List.mem_finRange b) hon
      have hread : readSample _ s.lapse (l.address l.wp) = _ := readSample_of_find hfind
      rw [hmemory, endWindow_lapse, hread, busSamples, Regs.get_map]
      exact finishBus_toInt _
  · have hswaps : swapsHere s = true ∧ tailClear (s.tables.bank s.scc.active.other).header = true := by
      unfold swapClearsHere at hclears
      unfold swapsHere swapTarget
      simp_all
    rw [endWindow_lines_eq hw, if_pos hswaps, cleared_busStage_get s hi]

end Sys2Proof.Machine
end

section
/-! Stages 1 and 2 of a window, and the cost of the accesses of a window (R37, R51 to R62, R119 to R121). -/

namespace Sys2Proof.Machine

variable {s : State}

/-! ### Stage 2 -/

theorem inputLine_injective : Function.Injective inputLine := fun a b h => by
  have := congrArg Fin.val h
  rw [inputLine_val, inputLine_val] at this
  exact Fin.ext this

theorem inputLines_nodup : ((List.finRange 24).map inputLine).Nodup := (List.nodup_finRange 24).map inputLine_injective

/-- Stage 2 writes every enabled input line, with its channel's conditioned sample (R37, R58). -/
theorem inputStage_eq (s : State) : inputStage s =
    runWrites Line.following inputLine s.ios.conditioned.get (List.finRange 24) s := by
  have hrun : ∀ (l : List (Fin 24)) (t : State), t.ios = s.ios → l.foldl inputWrite t =
      runWrites Line.following inputLine s.ios.conditioned.get l t := by
    intro l
    induction l with
    | nil => exact fun _ _ => rfl
    | cons i l ih =>
      intro t ht
      have hone : inputWrite t i = lineStep Line.following (inputLine i) (s.ios.conditioned.get i) t := by
        rw [← ht]
        rfl
      rw [List.foldl_cons, hone, ih _ ((lineStep_frame Line.following _ _ t).2.1.trans ht)]
      rfl
  exact hrun _ s rfl

/-- The state in which the input lines are written. -/
def refreshed (s : State) : State := refreshStage (conditionInputs s)

theorem earlyStages_eq (s : State) : earlyStages s =
    runWrites Line.following inputLine (refreshed s).ios.conditioned.get (List.finRange 24) (refreshed s) :=
  inputStage_eq (refreshed s)

/-! ### Costs -/

/-- Slow mode doubles (R54). -/
theorem scaled_eq (t : Timing) (x : Nat) : t.scaled x = (if t.slow then 2 else 1) * x := by
  unfold Timing.scaled
  split <;> simp

/-- The cost of an access (R52 to R54). -/
theorem accessCost_eq (t : Timing) (r : RowState) (dir : Access) (row : Nat) :
    t.accessCost r dir row = (if t.slow then 2 else 1) *
      (max (if r.direction = none ∨ r.direction = some dir then 0 else t.turnaround)
          (if r.openRow = some row ∨ t.rowGapOn = false then 0 else t.rowGap) +
        (if r.openRow = some row then 2 else 4 + t.rowWait)) := by
  have hturn : t.turnTerm r dir = if r.direction = none ∨ r.direction = some dir then 0 else t.turnaround := by
    unfold Timing.turnTerm
    cases r.direction <;> simp
  have hgap : (if r.onPage row then 0 else t.rowGapEff) =
      if r.openRow = some row ∨ t.rowGapOn = false then 0 else t.rowGap := by
    unfold RowState.onPage Timing.rowGapEff
    by_cases hrow : r.openRow = some row
    · simp [hrow]
    · cases t.rowGapOn <;> simp [hrow]
  have hfigure : (if r.onPage row then 2 else 4 + t.rowWait) = if r.openRow = some row then 2 else 4 + t.rowWait := by
    simp [RowState.onPage]
  rw [Timing.accessCost, Timing.gap, hturn, hgap, hfigure, scaled_eq]

/-- The enabled bus lines, listed. -/
theorem enabledBuses_filter (lines : Regs Line 40) : enabledBuses lines =
    ((List.finRange 40).filter fun i => decide (24 ≤ i.val ∧ (lines.get i).rows ≠ 0)).length := by
  rw [enabledBuses, countTrue, List.filter_map, List.length_map]
  congr 2
  funext i
  simp [Bool.decide_and]

/-- The row state that stage 1 leaves, and its spend (R55, R57). -/
theorem refreshed_dmc (s : State) :
    (refreshed s).dmc.rowState = (if min s.dmc.pendingRefresh 2 = 0 then ⟨s.dmc.openRow, s.dmc.direction⟩ else ⟨none, none⟩) ∧
    (refreshed s).dmc.timing = s.dmc.timing ∧
    (refreshed s).dmc.spend = s.dmc.spend + min s.dmc.pendingRefresh 2 * (if s.dmc.timing.slow then 20 else 10) := by
  refine ⟨?_, rfl, rfl⟩
  unfold refreshed refreshStage conditionInputs Dmc.rowState
  dsimp only
  split <;> rfl

/-- The accesses of stage 2, in order. -/
theorem inputAddresses_eq (s : State) : writeAddresses Line.following inputLine (List.finRange 24) (refreshed s) =
    (List.finRange 24).filterMap fun c =>
      let l := s.lines.get (Fin.ofNat 40 c.val)
      if l.rows = 0 then none else some (l.base * 1024 + (l.wp + 1) % (1024 * l.rows)) := rfl

theorem endWindow_dmc (hw : s.inWindow = true) : (endWindow s).dmc = (busStage (busSamples s) (tapWindowEnd s)).dmc := by
  obtain ⟨_, _, _, _, _, _, e⟩ := endWindow_blocks hw
  rw [e]

/-- The accesses of the bus lines that are written, in order. -/
theorem busAddresses_eq (s : State) : writeAddresses Line.wp busLine (writtenBuses (tapWindowEnd s)) (tapWindowEnd s) =
    (List.finRange 16).filterMap fun b =>
      let l := s.lines.get (Fin.ofNat 40 (24 + b.val))
      if l.rows = 0 ∨ (!clearedFirst (tapWindowEnd s) b) = false then none else some (l.base * 1024 + l.wp) := by
  rw [writeAddresses, writtenBuses, List.filterMap_filter]
  refine List.filterMap_congr fun b _ => ?_
  cases clearedFirst (tapWindowEnd s) b with
  | true => simp
  | false =>
    simp only [Bool.not_false, if_true, Bool.true_eq_false, or_false]
    rfl

/-- Settles O36: the cost of an access, and the accesses of each stage. -/
theorem accessesCostTheirUnits : Obligations.AccessesCostTheirUnits := by
  refine ⟨accessCost_eq, fun t dir r => ⟨rfl, fun _ _ => rfl⟩, fun s => ?_, fun s => ?_, fun s hrows hw => ?_⟩
  · intro served writes cost
    obtain ⟨hrow, htiming, hspend⟩ := refreshed_dmc s
    have hdmc := runWrites_dmc Line.following (refreshed s).ios.conditioned.get inputLines_nodup (refreshed s)
    rw [inputAddresses_eq, hrow, htiming, hspend] at hdmc
    rw [earlyStages_eq, hdmc]
    rfl
  · intro t buses
    rw [tapAllowance, Timing.reserve, enabledBuses_filter, scaled_eq]
    rfl
  · obtain ⟨_, hstage⟩ := busStage_eq (busSamples s) (tapWindowEnd s)
    have hdmc := runWrites_dmc Line.wp (busSamples s).get (writtenBuses_nodup (tapWindowEnd s)) (tapWindowEnd s)
    rw [busAddresses_eq] at hdmc
    refine ⟨_, fun b => !clearedFirst (tapWindowEnd s) b, exec_windowEnd hrows, fun hclears b => ?_, ?_⟩
    · simp [clearedFirst, show swapClearsHere (tapWindowEnd s) = false from hclears]
    · rw [endWindow_dmc hw, hstage]
      exact hdmc

/-! ### What stages 1 and 2 leave -/

theorem gaTable_length : gaTable.length = 61 := by decide

theorem ga_le_unit (k : Nat) : ga k ≤ 32768 := by
  by_cases hk : k < 62
  · exact ga_le k hk
  · rw [ga, List.getD_eq_default _ _ (by rw [gaTable_length]; omega)]
    exact Nat.zero_le _

/-- A sample scaled by an attenuation index is a sample (R121). -/
theorem toInt_ofInt_attenuate {u : Int} (k : Nat) (hlow : -8388608 ≤ u) (hhigh : u ≤ 8388607) :
    (BitVec.ofInt 24 (attenuate u k)).toInt = u * (ga k : Int) / 32768 := by
  have hmean := floor_mean_between 0 u (n := 32768) (by decide) (ga_le_unit k)
  rw [zero_mul, zero_add] at hmean
  push_cast at hmean
  unfold attenuate
  generalize u * (ga k : Int) / 32768 = v at hmean ⊢
  rw [BitVec.toInt_ofInt, Int.bmod_eq_of_le] <;> norm_num <;> omega

theorem invertSample_eq {raw : Int} (invert : Bool) (h : -8388608 ≤ raw) :
    invertSample invert raw = if invert then min (-raw) 8388607 else raw := by
  unfold invertSample
  split
  · split <;> omega
  · rfl

/-- The conditioned sample of a channel (R119 to R121). -/
theorem conditioned_toInt (s : State) (c : Fin 24) : let e := s.ios.inputs.get c
    let raw : Int := match e.slot with
      | none => 0
      | some k => if cellsReach s.rrx.lock then (s.rrx.heldFrame.get k).toInt else 0
    let u : Int := if e.invert then min (-raw) 8388607 else raw
    ((conditionInputs s).ios.conditioned.get c).toInt = u * (ga (s.ios.inApplied.get c) : Int) / 32768 := by
  intro e raw u
  have hraw : (rawSample s.rrx.lock s.rrx.heldFrame e.slot).toInt = raw := by
    show _ = match e.slot with
      | none => 0
      | some k => if cellsReach s.rrx.lock then (s.rrx.heldFrame.get k).toInt else 0
    cases e.slot with
    | none => rfl
    | some k => cases s.rrx.lock <;> rfl
  obtain ⟨hlow, hhigh⟩ := toInt_sample_range (rawSample s.rrx.lock s.rrx.heldFrame e.slot)
  rw [hraw] at hlow hhigh
  have hu : -8388608 ≤ u ∧ u ≤ 8388607 := by
    show -8388608 ≤ (if e.invert then min (-raw) 8388607 else raw) ∧
      (if e.invert then min (-raw) 8388607 else raw) ≤ 8388607
    split <;> omega
  show ((conditionInputs s).ios.conditioned.get c).toInt = _
  rw [conditionInputs, Regs.get_zip, conditionSample, hraw, invertSample_eq _ hlow]
  exact toInt_ofInt_attenuate _ hu.1 hu.2

/-- Once a refresh has been served, a word is kept for as many windows more as the retention time (R55, R68). -/
theorem readSample_retained {m : Memory} {l : Lapse} {c : DelayCell} {n : Nat} (hfind : Memory.find m c.address = some c)
    (hkept : c.kept l.refreshed = true) (hn : n ≤ Config.retention) :
    readSample m { l.refreshed with windows := l.refreshed.windows + n } c.address = c.sample := by
  obtain ⟨rest, hserved⟩ : ∃ rest, l.refreshed.served = l.refreshed.windows :: rest := by
    unfold Lapse.refreshed
    split
    · next h => exact ⟨_, (List.head?_eq_some_iff.1 h).choose_spec⟩
    · exact ⟨_, rfl⟩
  have hlong : longestHold c.age (l.refreshed.windows + n) l.refreshed.served ≤ Config.retention := by
    rw [hserved]
    refine (longestHold_since_refresh _ _ _ _).trans (max_le hn ?_)
    have := of_decide_eq_true hkept
    rw [hserved] at this
    refine le_trans ?_ this
    simp only [longestHold, Nat.min_self]
    omega
  have hkept' : c.kept { l.refreshed with windows := l.refreshed.windows + n } = true := decide_eq_true hlong
  rw [readSample, hfind]
  exact if_pos hkept'

theorem following_lt {l : Line} (h : l.rows ≠ 0) : l.following < l.length := Nat.mod_lt _ (length_pos h)

theorem not_mem_inputLine {i : Fin 40} (h : 24 ≤ i.val) : i ∉ (List.finRange 24).map inputLine := fun hi => by
  obtain ⟨c, _, hc⟩ := List.mem_map.1 hi
  have := congrArg Fin.val hc
  rw [inputLine_val] at this
  omega

/-- The holding of the delay memory after stage 1 (R55, R57). -/
theorem refreshed_lapse (s : State) :
    (refreshed s).lapse = if s.dmc.pendingRefresh = 0 then s.lapse else s.lapse.refreshed := by
  have hserved : min s.dmc.pendingRefresh 2 = 0 ↔ s.dmc.pendingRefresh = 0 := by omega
  show (if min s.dmc.pendingRefresh 2 = 0 then s.lapse else s.lapse.refreshed) = _
  simp only [hserved]

theorem readSample_refreshed_lapse (s : State) (m : Memory) (a : Nat) :
    readSample m (refreshed s).lapse a = readSample m s.lapse a := by
  rw [refreshed_lapse]
  split
  · rfl
  · exact readSample_refreshed m s.lapse a

/-- Settles O35: the refreshes served, the inputs conditioned, and the input lines written. -/
theorem earlyStagesWriteTheInputs : Obligations.EarlyStagesWriteTheInputs := by
  intro s hinv t
  have hlines : LinesOk s.lines := ((linesInv_iff s).1 hinv).2
  have hearly : t = runWrites Line.following inputLine (refreshed s).ios.conditioned.get (List.finRange 24) (refreshed s) :=
    earlyStages_eq s
  obtain ⟨hlapse, hios⟩ := runWrites_frame Line.following inputLine (refreshed s).ios.conditioned.get (List.finRange 24)
    (refreshed s)
  have hdmc := runWrites_dmc Line.following (refreshed s).ios.conditioned.get inputLines_nodup (refreshed s)
  have hget := runWrites_lines Line.following (refreshed s).ios.conditioned.get inputLines_nodup (refreshed s)
  have hsame : ∀ c : Fin 24, (s.lines.get (inputLine c)).rows ≠ 0 → _ := fun c hon =>
    runWrites_find_same Line.following (refreshed s).ios.conditioned.get inputLines_nodup (refreshed s)
      (fun i _ j _ hne hi hj => writeAddress_ne (s := s) (fun _ h _ => following_lt h) hlines hne hi hj)
      (List.mem_finRange c) hon
  have hother : ∀ a, _ → _ := fun a ha =>
    runWrites_find_ne Line.following (refreshed s).ios.conditioned.get inputLines_nodup (refreshed s) (a := a) ha
  obtain ⟨lines, dmc, memory, hframe⟩ := earlyStages_frame s
  have hframe' : t = _ := hframe
  have hconditioned : t.ios.conditioned = (conditionInputs s).ios.conditioned := by rw [hframe']
  have htlapse : t.lapse = if s.dmc.pendingRefresh = 0 then s.lapse else s.lapse.refreshed := by
    rw [hearly, hlapse, refreshed_lapse]
  rw [← hearly] at hlapse hdmc hget
  simp only [← hearly] at hsame hother
  clear_value t
  refine ⟨?_, fun c => ?_, fun i hi => ?_, fun c i hi => ?_, fun a ha => ?_, fun hpending c n hfind hkept hn => ?_, ?_⟩
  · rw [hdmc]
    rfl
  · rw [hconditioned]
    exact conditioned_toInt s c
  · rw [hget, if_neg fun h => not_mem_inputLine hi h.1]
    rfl
  · obtain rfl : i = inputLine c := Fin.ext (hi.trans (inputLine_val c).symm)
    intro l
    refine ⟨fun hoff => ?_, fun hon => ⟨?_, ?_⟩⟩
    · rw [hget, if_neg fun h => h.2 hoff]
      rfl
    · rw [hget, if_pos ⟨List.mem_map_of_mem (List.mem_finRange c), hon⟩]
      rfl
    · rw [hlapse, hconditioned]
      exact readSample_of_find (hsame c hon)
  · have hfind : Memory.find t.memory a = Memory.find s.memory a := hother a fun c _ hon =>
      ha (inputLine c) (by rw [inputLine_val]; exact c.isLt) hon
    refine ⟨hfind, ?_⟩
    rw [hlapse, readSample_refreshed_lapse, readSample, hfind, readSample]
  · rw [htlapse, if_neg (by omega)] at hkept ⊢
    exact readSample_retained hfind hkept hn
  · have hios' : t.ios = { s.ios with conditioned := t.ios.conditioned } := by
      rw [hframe']
      rfl
    refine ⟨?_, ?_, ?_, ?_, ?_, ?_, ?_, ?_, ?_, htlapse, hios'⟩ <;> rw [hframe']

end Sys2Proof.Machine
end

section
/-! The tap pass (R4, R15, R17, R22, R23, R60, R61), followed tap by tap. -/

namespace Sys2Proof.Machine

variable (s : State)

/-- The tap entry of an index. -/
def tapAt (i : Fin 1024) : Tap := tapOf ((activeBank s).taps.get i)

/-- The valid reads of the first taps, in table order. -/
def readsUpTo (n : Nat) : List Nat :=
  ((List.range n).map (Fin.ofNat 1024)).flatMap fun i => (tapReads s (tapAt s i)).addresses

/-- What the reads of the first taps cost, and the row state that they leave (R60). -/
def costUpTo (n : Nat) : Nat × RowState := s.dmc.timing.runCost .read s.dmc.rowState (readsUpTo s n)

/-- The pass after its first taps. -/
def passAfter (n : Nat) : Pass := ((List.range n).map (Fin.ofNat 1024)).foldl (Pass.tap s) (Pass.first s)

theorem passAfter_succ (n : Nat) : passAfter s (n + 1) = (passAfter s n).tap s (Fin.ofNat 1024 n) := by
  simp [passAfter, List.range_succ]

theorem runTaps_eq : runTaps s = passAfter s (tapCount (activeBank s).header) := rfl

theorem tapCount_le (header : Triple) : tapCount header ≤ 1024 := min_le_right _ _

theorem runCost_append (t : Timing) (dir : Access) (r : RowState) (xs ys : List Nat) : t.runCost dir r (xs ++ ys) =
    ((t.runCost dir r xs).1 + (t.runCost dir (t.runCost dir r xs).2 ys).1, (t.runCost dir (t.runCost dir r xs).2 ys).2) := by
  induction xs generalizing r with
  | nil => simp [Timing.runCost]
  | cons a xs ih => simp only [List.cons_append, Timing.runCost, ih, Nat.add_assoc]

/-- The next tap's reads go on from where the last have left the memory. -/
theorem costUpTo_succ (n : Nat) : costUpTo s (n + 1) =
    ((costUpTo s n).1 + (s.dmc.timing.runCost .read (costUpTo s n).2
        (tapReads s (tapAt s (Fin.ofNat 1024 n))).addresses).1,
      (s.dmc.timing.runCost .read (costUpTo s n).2 (tapReads s (tapAt s (Fin.ofNat 1024 n))).addresses).2) := by
  have hreads : readsUpTo s (n + 1) = readsUpTo s n ++ (tapReads s (tapAt s (Fin.ofNat 1024 n))).addresses := by
    simp [readsUpTo, List.range_succ]
  rw [costUpTo, hreads, runCost_append]
  rfl

/-! ### One tap -/

/-- What a tap does besides its sums. -/
structure SameButSums (p q : Pass) : Prop where
  row : p.row = q.row
  remaining : p.remaining = q.remaining
  spent : p.spent = q.spent
  shedding : p.shedding = q.shedding
  shed : p.shed = q.shed
  held : p.held = q.held

theorem addTo_same (p : Pass) (d : Nat) (x : Int) : SameButSums (p.addTo d x) p := by
  unfold Pass.addTo
  split <;> exact ⟨rfl, rfl, rfl, rfl, rfl, rfl⟩

/-- The cost of a tap's reads, from where the pass stands. -/
def tapCost (p : Pass) (i : Fin 1024) : Nat × RowState :=
  s.dmc.timing.runCost .read p.row (tapReads s (tapAt s i)).addresses

/-- The coefficient of a tap in this window (R20). -/
def tapCoefficient (i : Fin 1024) : Int := coefficient (tapAt s i) s.sgd.groups (rampFactor s)

variable {s}

/-- A tap within the allowance is served (R60, R61). -/
theorem tap_served {p : Pass} {i : Fin 1024} (hp : p.shedding = false) (h : (tapCost s p i).1 ≤ p.remaining) :
    p.tap s i = (p.serve i (tapCost s p i).1 (tapCost s p i).2 ((tapReads s (tapAt s i)).value s.memory s.lapse)).addTo
      (tapAt s i).destination (((tapReads s (tapAt s i)).value s.memory s.lapse).toInt * tapCoefficient s i) := by
  have hserve : (!p.shedding && decide ((tapCost s p i).1 ≤ p.remaining)) = true := by simp [hp, h]
  exact if_pos hserve

/-- Every other tap is shed (R17, R61). -/
theorem tap_shed {p : Pass} {i : Fin 1024} (h : p.shedding = true ∨ p.remaining < (tapCost s p i).1) :
    p.tap s i = p.shedOne.addTo (tapAt s i).destination ((p.held.get i).toInt * tapCoefficient s i) := by
  have hshed : ¬(!p.shedding && decide ((tapCost s p i).1 ≤ p.remaining)) = true := by
    rcases h with h | h
    · simp [h]
    · simp [Nat.not_le.2 h]
  exact if_neg hshed

/-! ### The taps served and shed -/

variable (s)

/-- The pass after its first `n` taps: the first are served, and from the first that does not fit on every tap is shed. -/
structure Follows (n : Nat) (p : Pass) : Prop where
  shedLe : p.shed ≤ n
  shedding : p.shedding = false ↔ p.shed = 0
  allowance : p.spent + p.remaining = tapAllowance s
  cost : costUpTo s (n - p.shed) = (p.spent, p.row)
  first : p.shed ≠ 0 → tapAllowance s < (costUpTo s (n - p.shed + 1)).1
  served : ∀ i : Fin 1024, i.val < n - p.shed → p.held.get i = (tapReads s (tapAt s i)).value s.memory s.lapse
  kept : ∀ i : Fin 1024, n - p.shed ≤ i.val → p.held.get i = s.tpe.held.get i

variable {s}

theorem Follows.of_same {n : Nat} {p q : Pass} (h : SameButSums p q) (hq : Follows s n q) : Follows s n p := by
  obtain ⟨hrow, hremaining, hspent, hshedding, hshed, hheld⟩ := h
  obtain ⟨h1, h2, h3, h4, h5, h6, h7⟩ := hq
  rw [← hshed] at h1 h2 h4 h5 h6 h7
  rw [← hshedding] at h2
  rw [← hspent] at h3 h4
  rw [← hremaining] at h3
  rw [← hrow] at h4
  rw [← hheld] at h6 h7
  exact ⟨h1, h2, h3, h4, h5, h6, h7⟩

theorem follows_zero : Follows s 0 (Pass.first s) :=
  ⟨le_rfl, Iff.rfl.trans (by simp [Pass.first]), Nat.zero_add _, rfl, fun h => absurd rfl h,
    fun _ h => absurd h (Nat.not_lt_zero _), fun _ _ => rfl⟩

theorem ofNat_val {n : Nat} (h : n < 1024) : (Fin.ofNat 1024 n).val = n := Nat.mod_eq_of_lt h

/-- One tap more. -/
theorem Follows.tap {n : Nat} (hn : n < 1024) {p : Pass} (h : Follows s n p) :
    Follows s (n + 1) (p.tap s (Fin.ofNat 1024 n)) := by
  obtain ⟨hle, hiff, hallowance, hcost, hfirst, hserved, hkept⟩ := h
  have hnext : n - p.shed = n → costUpTo s (n + 1) = (p.spent + (tapCost s p (Fin.ofNat 1024 n)).1,
      (tapCost s p (Fin.ofNat 1024 n)).2) := fun e => by
    rw [e] at hcost
    rw [costUpTo_succ, hcost]
    rfl
  by_cases hfits : p.shedding = false ∧ (tapCost s p (Fin.ofNat 1024 n)).1 ≤ p.remaining
  · have hzero : p.shed = 0 := hiff.1 hfits.1
    have hall : n - p.shed = n := by omega
    rw [tap_served hfits.1 hfits.2]
    refine Follows.of_same (addTo_same _ _ _) ⟨?_, hiff, ?_, ?_, fun hne => absurd hzero hne, fun i hi => ?_, fun i hi => ?_⟩
    · exact hle.trans (Nat.le_succ n)
    · dsimp only [Pass.serve]
      omega
    · have hstep : n + 1 - p.shed = n + 1 := by omega
      dsimp only [Pass.serve]
      rw [hstep, hnext hall]
    · dsimp only [Pass.serve] at hi ⊢
      rw [Regs.get_put]
      split
      · next e => rw [e]
      · next hne =>
        have hval : i.val ≠ n := fun e => hne (Fin.ext (by rw [ofNat_val hn, e]))
        exact hserved i (by omega)
    · dsimp only [Pass.serve] at hi ⊢
      rw [Regs.get_put_ne _ _ (fun e => by have := congrArg Fin.val e; rw [ofNat_val hn] at this; omega)]
      exact hkept i (by omega)
  · have hshed : p.shedding = true ∨ p.remaining < (tapCost s p (Fin.ofNat 1024 n)).1 := by
      cases hp : p.shedding with
      | true => exact .inl rfl
      | false => exact .inr (Nat.lt_of_not_le fun hle => hfits ⟨hp, hle⟩)
    have hsame : n + 1 - (p.shed + 1) = n - p.shed := Nat.succ_sub_succ n p.shed
    rw [tap_shed hshed]
    refine Follows.of_same (addTo_same _ _ _) ⟨?_, ?_, hallowance, ?_, fun _ => ?_, fun i hi => ?_, fun i hi => ?_⟩
    · exact Nat.succ_le_succ hle
    · simp [Pass.shedOne]
    · exact (congrArg (costUpTo s) hsame).trans hcost
    · show _ < (costUpTo s (n + 1 - (p.shed + 1) + 1)).1
      rw [hsame]
      by_cases hzero : p.shed = 0
      · have hp : p.shedding = false := hiff.2 hzero
        have hall : n - p.shed = n := by omega
        rw [hall, hnext hall]
        have hmore : p.remaining < (tapCost s p (Fin.ofNat 1024 n)).1 := by
          rcases hshed with h | h
          · rw [hp] at h
            cases h
          · exact h
        dsimp only
        omega
      · exact hfirst hzero
    · exact hserved i (by dsimp only [Pass.shedOne] at hi; omega)
    · exact hkept i (by dsimp only [Pass.shedOne] at hi; omega)

theorem passAfter_follows {n : Nat} (hn : n ≤ 1024) : Follows s n (passAfter s n) := by
  induction n with
  | zero => exact follows_zero
  | succ n ih =>
    rw [passAfter_succ]
    exact (ih (Nat.le_of_succ_le hn)).tap hn

/-! ### The sums -/

variable (s)

/-- The sum for a destination over the first taps, at held values (R22). -/
def sumUpTo (held : Regs Sample 1024) (d n : Nat) : Int :=
  ((((List.range n).map (Fin.ofNat 1024)).filter fun i => (tapAt s i).destination == d).map fun i =>
    (held.get i).toInt * tapCoefficient s i).sum

theorem sumUpTo_succ (held : Regs Sample 1024) (d n : Nat) : sumUpTo s held d (n + 1) = sumUpTo s held d n +
    if (tapAt s (Fin.ofNat 1024 n)).destination = d then
      (held.get (Fin.ofNat 1024 n)).toInt * tapCoefficient s (Fin.ofNat 1024 n) else 0 := by
  unfold sumUpTo
  rw [List.range_succ, List.map_append, List.filter_append, List.map_append, List.sum_append, List.map_singleton]
  generalize Fin.ofNat 1024 n = i
  by_cases h : (tapAt s i).destination = d <;> simp [h]

/-- Only the values of the taps summed enter. -/
theorem sumUpTo_congr {a b : Regs Sample 1024} (d : Nat) {n : Nat} (hn : n ≤ 1024)
    (h : ∀ i : Fin 1024, i.val < n → a.get i = b.get i) : sumUpTo s a d n = sumUpTo s b d n := by
  induction n with
  | zero => simp [sumUpTo]
  | succ n ih =>
    have hlast : (Fin.ofNat 1024 n).val < n + 1 := by
      rw [ofNat_val (Nat.lt_of_succ_le hn)]
      exact Nat.lt_succ_self n
    rw [sumUpTo_succ, sumUpTo_succ, ih (Nat.le_of_succ_le hn) fun i hi => h i (Nat.lt_succ_of_lt hi), h _ hlast]

theorem natAbs_signedField_le (w : Word) : (signedField w 15 0).natAbs ≤ 32768 := by
  have hlt : field w 15 0 < 65536 := Nat.mod_lt _ (by decide)
  unfold signedField
  split <;> omega

/-- A coefficient is no larger than a gain can be, at any index that stands. -/
theorem natAbs_tapCoefficient_le (hr : rampFactor s ≤ 1024) (i : Fin 1024) : (tapCoefficient s i).natAbs ≤ 32768 := by
  have hguard : (guardedGain (tapAt s i).gain (tapAt s i).group s.sgd.groups).natAbs ≤ (tapAt s i).gain.natAbs := by
    unfold guardedGain
    split
    · exact natAbs_scaled_le _ (by decide) (ga_le_unit _)
    · exact le_rfl
  exact (natAbs_scaled_le _ (by decide) hr).trans (hguard.trans (natAbs_signedField_le _))

/-- The sum of as many taps as a window has stays within 2^48 (R23). -/
theorem natAbs_sumUpTo_le (hr : rampFactor s ≤ 1024) (held : Regs Sample 1024) (d n : Nat) :
    (sumUpTo s held d n).natAbs ≤ n * 2 ^ 38 := by
  induction n with
  | zero => exact Nat.zero_le _
  | succ n ih =>
    have hone : ((held.get (Fin.ofNat 1024 n)).toInt * tapCoefficient s (Fin.ofNat 1024 n)).natAbs ≤ 2 ^ 38 := by
      rw [Int.natAbs_mul]
      exact (Nat.mul_le_mul (natAbs_sample_le _) (natAbs_tapCoefficient_le s hr _)).trans_eq (by norm_num)
    rw [sumUpTo_succ]
    split <;> omega

theorem accumulate_toInt {a : Accumulator} {x : Int} (h : (a.toInt + x).natAbs ≤ 2 ^ 48) :
    (accumulate a x).toInt = a.toInt + x := by
  unfold accumulate
  rw [BitVec.toInt_ofInt, Int.bmod_eq_of_le] <;> norm_num at h ⊢ <;> omega

/-- The accumulators of a pass hold the sums of its taps. -/
def Sums (n : Nat) (p : Pass) : Prop :=
  (∀ j : Fin 48, (p.outs.get j).toInt = sumUpTo s p.held j.val n) ∧
  (∀ b : Fin 16, (p.buses.get b).toInt = sumUpTo s p.held (48 + b.val) n)

theorem destination_lt (i : Fin 1024) : (tapAt s i).destination < 64 := Nat.mod_lt _ (by decide)

/-- A tap adds its product to the destination it names (R5, R22). -/
theorem addTo_sums {n : Nat} (hn : n < 1024) (hr : rampFactor s ≤ 1024) {p : Pass} (h : Sums s n p) {q : Pass}
    (houts : q.outs = p.outs) (hbuses : q.buses = p.buses)
    (hheld : ∀ i : Fin 1024, i.val < n → q.held.get i = p.held.get i) :
    Sums s (n + 1) (q.addTo (tapAt s (Fin.ofNat 1024 n)).destination
      ((q.held.get (Fin.ofNat 1024 n)).toInt * tapCoefficient s (Fin.ofNat 1024 n))) := by
  have hsums : ∀ d, sumUpTo s p.held d n = sumUpTo s q.held d n := fun d =>
    sumUpTo_congr s d hn.le fun i hi => (hheld i hi).symm
  have hbound : ∀ d, (sumUpTo s q.held d (n + 1)).natAbs ≤ 2 ^ 48 := fun d =>
    (natAbs_sumUpTo_le s hr q.held d (n + 1)).trans (by omega)
  have hadd : ∀ (a : Accumulator) (d : Nat), a.toInt = sumUpTo s q.held d n →
      (tapAt s (Fin.ofNat 1024 n)).destination = d →
      (accumulate a ((q.held.get (Fin.ofNat 1024 n)).toInt * tapCoefficient s (Fin.ofNat 1024 n))).toInt =
        sumUpTo s q.held d (n + 1) := by
    intro a d ha hd
    have hnext := sumUpTo_succ s q.held d n
    rw [if_pos hd, ← ha] at hnext
    rw [accumulate_toInt (hnext ▸ hbound d), hnext]
  have hskip : ∀ d, (tapAt s (Fin.ofNat 1024 n)).destination ≠ d →
      sumUpTo s q.held d (n + 1) = sumUpTo s q.held d n := fun d hd => by
    rw [sumUpTo_succ, if_neg hd, add_zero]
  have hdest := destination_lt s (Fin.ofNat 1024 n)
  rw [Sums, (addTo_same q _ _).held]
  unfold Pass.addTo
  split
  · next hlow =>
    refine ⟨fun j => ?_, fun b => ?_⟩
    · dsimp only
      rw [Regs.get_edit, houts]
      split
      · next e =>
        have hj : (tapAt s (Fin.ofNat 1024 n)).destination = j.val := by
          have := congrArg Fin.val e
          rwa [show (Fin.ofNat 48 (tapAt s (Fin.ofNat 1024 n)).destination).val = _ from Nat.mod_eq_of_lt hlow] at this
        exact hadd _ _ ((h.1 j).trans (hsums _)) hj
      · next e =>
        rw [hskip j.val fun hj => e (Fin.ext ((Nat.mod_eq_of_lt hlow).trans hj))]
        exact (h.1 j).trans (hsums _)
    · dsimp only
      rw [hbuses, hskip (48 + b.val) (by omega)]
      exact (h.2 b).trans (hsums _)
  · next hhigh =>
    have hbus : (tapAt s (Fin.ofNat 1024 n)).destination - 48 < 16 := by omega
    refine ⟨fun j => ?_, fun b => ?_⟩
    · dsimp only
      rw [houts, hskip j.val (by omega)]
      exact (h.1 j).trans (hsums _)
    · dsimp only
      rw [Regs.get_edit, hbuses]
      split
      · next e =>
        have hb : (tapAt s (Fin.ofNat 1024 n)).destination = 48 + b.val := by
          have := congrArg Fin.val e
          rw [show (Fin.ofNat 16 ((tapAt s (Fin.ofNat 1024 n)).destination - 48)).val = _ from Nat.mod_eq_of_lt hbus] at this
          omega
        exact hadd _ _ ((h.2 b).trans (hsums _)) hb
      · next e =>
        rw [hskip (48 + b.val) fun hb => e (Fin.ext ((Nat.mod_eq_of_lt hbus).trans (by omega)))]
        exact (h.2 b).trans (hsums _)

theorem Sums.tap {n : Nat} (hn : n < 1024) (hr : rampFactor s ≤ 1024) {p : Pass} (h : Sums s n p) :
    Sums s (n + 1) (p.tap s (Fin.ofNat 1024 n)) := by
  by_cases hfits : p.shedding = false ∧ (tapCost s p (Fin.ofNat 1024 n)).1 ≤ p.remaining
  · rw [tap_served hfits.1 hfits.2]
    have hput : ((p.serve (Fin.ofNat 1024 n) (tapCost s p (Fin.ofNat 1024 n)).1 (tapCost s p (Fin.ofNat 1024 n)).2
        ((tapReads s (tapAt s (Fin.ofNat 1024 n))).value s.memory s.lapse)).held.get (Fin.ofNat 1024 n)) =
        (tapReads s (tapAt s (Fin.ofNat 1024 n))).value s.memory s.lapse := Regs.get_put_same _ _ _
    have hsums := addTo_sums s hn hr h (q := p.serve (Fin.ofNat 1024 n) (tapCost s p (Fin.ofNat 1024 n)).1
      (tapCost s p (Fin.ofNat 1024 n)).2 ((tapReads s (tapAt s (Fin.ofNat 1024 n))).value s.memory s.lapse)) rfl rfl
      (fun i hi => Regs.get_put_ne _ _ fun e => by have := congrArg Fin.val e; rw [ofNat_val hn] at this; omega)
    rwa [hput] at hsums
  · rw [tap_shed (by
      cases hp : p.shedding with
      | true => exact .inl rfl
      | false => exact .inr (Nat.lt_of_not_le fun hle => hfits ⟨hp, hle⟩))]
    exact addTo_sums s hn hr h (q := p.shedOne) rfl rfl fun _ _ => rfl

theorem passAfter_sums (hr : rampFactor s ≤ 1024) {n : Nat} (hn : n ≤ 1024) : Sums s n (passAfter s n) := by
  induction n with
  | zero => exact ⟨fun j => by simp [passAfter, Pass.first, sumUpTo], fun b => by simp [passAfter, Pass.first, sumUpTo]⟩
  | succ n ih =>
    rw [passAfter_succ]
    exact (ih (Nat.le_of_succ_le hn)).tap s hn hr

/-- The processed taps, picked from all taps. -/
theorem finRange_filter_lt {n : Nat} (hn : n ≤ 1024) :
    (List.finRange 1024).filter (fun i => decide (i.val < n)) = (List.range n).map (Fin.ofNat 1024) := by
  have hvals : ((List.finRange 1024).filter fun i => decide (i.val < n)).map Fin.val =
      ((List.range n).map (Fin.ofNat 1024)).map Fin.val := by
    have hleft : ((List.finRange 1024).filter fun i => decide (i.val < n)).map Fin.val =
        (List.range 1024).filter fun i => decide (i < n) := by
      rw [← List.map_coe_finRange_eq_range, List.filter_map]
      rfl
    have hright : ((List.range n).map (Fin.ofNat 1024)).map Fin.val = List.range n := by
      rw [List.map_map]
      refine (List.map_congr_left fun i hi => ?_).trans (List.map_id _)
      exact ofNat_val ((List.mem_range.1 hi).trans_le hn)
    have hsplit : List.range 1024 = List.range n ++ (List.range (1024 - n)).map (n + ·) := by
      rw [← List.range_add, Nat.add_sub_cancel' hn]
    rw [hleft, hright, hsplit, List.filter_append, List.filter_eq_self.2, List.filter_eq_nil_iff.2, List.append_nil]
    · simp
    · simp
  exact List.map_injective_iff.2 Fin.val_injective hvals

/-- Settles O37: the pass followed tap by tap, its cost and its sums. -/
theorem tapPassKeepsToItsAllowance : Obligations.TapPassKeepsToItsAllowance := by
  intro s
  have hn := tapCount_le (activeBank s).header
  obtain ⟨hle, hiff, hallowance, hcost, hfirst, hserved, hkept⟩ := passAfter_follows (s := s) hn
  rw [runTaps_eq]
  refine ⟨by omega, hle, hiff, ⟨?_, ?_, ?_, hfirst⟩, hkept, hserved, fun hr => ?_⟩
  · exact (congrArg Prod.fst hcost).trans_le (by dsimp only; omega)
  · exact (congrArg Prod.fst hcost).symm
  · exact (congrArg Prod.snd hcost).symm
  · intro sumFor
    have hsumFor : ∀ d, sumFor d = sumUpTo s (passAfter s (tapCount (activeBank s).header)).held d
        (tapCount (activeBank s).header) := fun d => by
      have hfilter : ∀ q : Fin 1024 → Bool, (List.finRange 1024).filter (fun i =>
          decide (i.val < tapCount (activeBank s).header) && q i) =
          ((List.range (tapCount (activeBank s).header)).map (Fin.ofNat 1024)).filter q := fun q => by
        rw [← finRange_filter_lt hn, List.filter_filter]
        simp only [Bool.and_comm]
      exact congrArg (fun l => (List.map _ l).sum) (hfilter _)
    obtain ⟨houts, hbuses⟩ := passAfter_sums s hr hn
    refine ⟨fun j => (houts j).trans (hsumFor _).symm, fun b => (hbuses b).trans (hsumFor _).symm, fun d => ?_⟩
    rw [hsumFor]
    exact (natAbs_sumUpTo_le s hr _ d _).trans (by omega)

end Sys2Proof.Machine
end

section
/-! The reads of a tap (R7, R11 to R14, R39, R40). -/

namespace Sys2Proof.Machine

variable {s : State} {t : Tap}

theorem tapReads_silent (h : 40 ≤ t.source) : tapReads s t = ⟨none, none, 0⟩ := if_neg (Nat.not_lt.2 h)

theorem tapReads_disabled {i : Fin 40} (h : t.source = i.val) (hoff : (s.lines.get i).rows = 0) :
    tapReads s t = ⟨none, none, 0⟩ := by
  unfold tapReads
  rw [if_pos (h ▸ i.isLt), h, Fin.ofNat_val_eq_self]
  exact if_pos hoff

theorem tapReads_enabled {i : Fin 40} (h : t.source = i.val) (hon : (s.lines.get i).rows ≠ 0) : tapReads s t =
    readsAt i.val (s.lines.get i) (effectiveDelay t (s.lines.get i).length
      (tapOffset (activeBank s).mods s.tpe.phases t.generator)) := by
  unfold tapReads
  rw [if_pos (h ▸ i.isLt), h, Fin.ofNat_val_eq_self]
  exact if_neg hon

theorem tapOffset_none (mods : Regs Triple 32) (phases : Regs (BitVec 20) 32) {g : Nat} (h : 32 ≤ g) :
    tapOffset mods phases g = 0 := if_neg (Nat.not_lt.2 h)

theorem tapOffset_generator (mods : Regs Triple 32) (phases : Regs (BitVec 20) 32) (m : Fin 32) :
    tapOffset mods phases m.val = offset (depthOf (mods.get m)) (phases.get m).toNat := by
  unfold tapOffset
  rw [if_pos m.isLt, Fin.ofNat_val_eq_self]

/-- The triangle, in the integers (R7). -/
theorem triangle_eq (phase : Nat) : triangle phase =
    if (phase : Int) < 524288 then 2 * (phase : Int) - 524288 else 1572864 - 2 * (phase : Int) := by
  unfold triangle
  split <;> split <;> omega

/-- The effective delay is the clamped number itself: a line's least delay is no less than 0 (R12). -/
theorem effectiveDelay_eq (t : Tap) (length : Nat) (o : Int) : (effectiveDelay t length o : Int) =
    max (if t.source < 24 then 0 else 256)
      (min (256 * (t.delay : Int) + t.fraction + o) (256 * ((length : Int) - 2))) := by
  unfold effectiveDelay minDelay
  split <;> omega

theorem readValid_iff (line delay fill : Nat) :
    readValid line delay fill = true ↔ if line < 24 then delay < fill else delay ≤ fill := by
  unfold readValid
  split <;> simp

/-- Settles O38: a tap on an enabled line reads at its clamped delay, where the fill count makes a read valid. -/
theorem tapsReadTheirDelays : Obligations.TapsReadTheirDelays := by
  intro t s
  refine ⟨tapReads_silent, ?_⟩
  intro i hsource l r
  refine ⟨tapReads_disabled hsource, fun hon => ?_⟩
  refine ⟨tapOffset (activeBank s).mods s.tpe.phases t.generator, effectiveDelay t l.length (tapOffset (activeBank s).mods
    s.tpe.phases t.generator), tapOffset_none _ _, ?_, ?_, ?_⟩
  · intro m hm phase wave
    rw [hm, tapOffset_generator, offset, triangle_eq]
    rfl
  · rw [effectiveDelay_eq, hsource, Line.length]
    push_cast
    rfl
  · have hr : r = readsAt i.val l _ := tapReads_enabled hsource hon
    generalize effectiveDelay t l.length _ = d at hr ⊢
    intro valid address
    have hvalid : ∀ n, valid n ↔ readValid i.val n l.fill = true := fun n => (readValid_iff _ _ _).symm
    have haddress : ∀ n, l.readAddress n = address n := fun n => by
      show l.base * 1024 + _ = l.base * 1024 + _
      unfold Line.length
      push_cast
      rfl
    rw [hr]
    simp only [hvalid, ← haddress, readsAt]
    refine ⟨trivial, fun h => if_pos h, fun h => if_neg h, fun hf h => ?_, fun h => ?_⟩
    · simp [hf, h]
    · rcases h with h | h
      · simp [h]
      · simp [h]

end Sys2Proof.Machine
end

section
/-! The window start's own work, with and without RESTART (R18, R34, R41, R43, R50, R68, R89, R94 to R96, R113, R118,
R122, R174, R197, R204). -/

namespace Sys2Proof.Machine

variable {s : State}

/-! ### The memory controller and the Tap Engine -/

theorem takeTiming_rowState (d : Dmc) (row : Option Nat) (dir : Option Access) (t : Timing) (time : Nat) :
    ({ d with openRow := row, direction := dir } : Dmc).takeTiming t time =
      { d.takeTiming t time with openRow := row, direction := dir } := by
  unfold Dmc.takeTiming
  cases d.timing.refreshOn <;> cases t.refreshOn <;> rfl

theorem startBlocks_dmc_eq (time : Nat) (s : State) : (startBlocks time s).dmc =
    { s.dmc.takeTiming (timingOf s.tables.timing) time with
      openRow := if s.cmu.restartPending then none else s.dmc.openRow
      direction := if s.cmu.restartPending then none else s.dmc.direction
      spend := 0 } := by
  rw [startBlocks_eq, startGeometry]
  have hset := fun row dir => congrArg (fun d : Dmc => { d with spend := 0 })
    (takeTiming_rowState s.dmc row dir (timingOf s.tables.timing) time)
  cases s.cmu.restartPending with
  | true => exact hset none none
  | false => exact hset s.dmc.openRow s.dmc.direction

theorem takeTiming_frame (d : Dmc) (t : Timing) (time : Nat) : ∃ due pending,
    d.takeTiming t time = { d with timing := t, refreshDue := due, pendingRefresh := pending } := by
  unfold Dmc.takeTiming
  split <;> exact ⟨_, _, rfl⟩

/-- The refresh timer and the requests waiting, as the enable goes (R50). -/
theorem takeTiming_enable (d : Dmc) (t : Timing) (time : Nat) :
    (d.timing.refreshOn = true → t.refreshOn = true → (d.takeTiming t time).refreshDue = d.refreshDue ∧
      (d.takeTiming t time).pendingRefresh = d.pendingRefresh) ∧
    (d.timing.refreshOn = true → t.refreshOn = false → (d.takeTiming t time).refreshDue = none ∧
      (d.takeTiming t time).pendingRefresh = 0) ∧
    (d.timing.refreshOn = false → t.refreshOn = true →
      (d.takeTiming t time).refreshDue = some (4 * time + t.interval) ∧ (d.takeTiming t time).pendingRefresh = 0) := by
  unfold Dmc.takeTiming
  cases d.timing.refreshOn <;> cases t.refreshOn <;> simp

theorem startBlocks_lapse (time : Nat) (s : State) : (startBlocks time s).lapse =
    if (timingOf s.tables.timing).refreshOn then s.lapse else s.lapse.unrefreshed := by
  obtain ⟨_, _, _, _, _, h⟩ := startGeometry_frame s time
  rw [startBlocks_eq, h]
  unfold memoryWindowStart
  dsimp only
  rw [takeTiming_timing]

theorem startBlocks_tpe (time : Nat) (s : State) : (startBlocks time s).tpe =
    if s.cmu.restartPending then s.tpe.reload (activeBank s)
    else (takeGeometry { s with rrx := s.rrx.windowStart time s.tables.ringset }).tpe := by
  rw [startBlocks_eq, startGeometry]
  cases s.cmu.restartPending <;> rfl

/-- A line whose stored geometry differs from the one in force is cleared (R34). -/
def LineChanges (s : State) (i : Fin 40) : Prop :=
  (s.lines.get i).base ≠ baseOf (s.tables.lines.get i) ∨ (s.lines.get i).rows ≠ rowsOf (s.tables.lines.get i)

theorem geometryChanged_iff (s : State) (i : Fin 40) : geometryChanged s.tables s.lines i = true ↔ LineChanges s i := by
  simp [geometryChanged, LineChanges]

theorem startLine_changed {i : Fin 40} (h : LineChanges s i) : startLine s.tables s.lines i =
    ⟨baseOf (s.tables.lines.get i), rowsOf (s.tables.lines.get i), 0, 0⟩ := if_pos ((geometryChanged_iff s i).2 h)

theorem startLine_same {i : Fin 40} (h : ¬LineChanges s i) : startLine s.tables s.lines i = s.lines.get i :=
  if_neg fun hc => h ((geometryChanged_iff s i).1 hc)

/-- A held value whose tap reads a line that changes becomes 0 (R18, R41). -/
theorem takeGeometry_held (r : Rrx) (s : State) (k : Fin 1024) :
    ((∃ i, LineChanges s i ∧ (tapOf ((activeBank s).taps.get k)).source = i.val) →
      (takeGeometry { s with rrx := r }).tpe.held.get k = 0) ∧
    (¬(∃ i, LineChanges s i ∧ (tapOf ((activeBank s).taps.get k)).source = i.val) →
      (takeGeometry { s with rrx := r }).tpe.held.get k = s.tpe.held.get k) := by
  have hheld : (takeGeometry { s with rrx := r }).tpe.held.get k =
      if (if h : (tapOf ((activeBank s).taps.get k)).source < 40 then
          geometryChanged s.tables s.lines ⟨(tapOf ((activeBank s).taps.get k)).source, h⟩ else false) = true then 0#24
      else s.tpe.held.get k := Regs.get_zip _ _ _ k
  rw [hheld]
  generalize (tapOf ((activeBank s).taps.get k)).source = line
  refine ⟨fun ⟨i, hchanges, hi⟩ => if_pos ?_, fun hno => if_neg fun h => ?_⟩
  · subst hi
    rw [dif_pos i.isLt]
    exact (geometryChanged_iff s i).2 hchanges
  · split at h
    · next hlt => exact hno ⟨⟨line, hlt⟩, (geometryChanged_iff s _).1 h, rfl⟩
    · cases h

/-! ### The guard -/

/-- A detector after its stored entry has come into force (R94). -/
theorem detector_takeEntry (d : Detector) (e : DetectorEntry) :
    (d.takeEntry e).entry = e ∧ (d.takeEntry e).total = d.total ∧ (d.takeEntry e).flag = d.flag ∧
    ((d.takeEntry e).trips = if d.entry ≠ e ∧ (d.entry.enable = true ∨ e.enable = true) then 0 else d.trips) ∧
    ((d.takeEntry e).forgive = if d.entry ≠ e ∧ (d.entry.enable = true ∨ e.enable = true) then 0 else d.forgive) ∧
    ((d.takeEntry e).debounce = if d.entry ≠ e ∧ (d.entry.enable = true ∨ e.enable = true) then 0 else d.debounce) ∧
    ((d.takeEntry e).fast = if d.entry.enable ≠ e.enable then 0 else d.fast) ∧
    ((d.takeEntry e).slow = if d.entry.enable ≠ e.enable then 0 else d.slow) := by
  unfold Detector.takeEntry
  by_cases hsame : d.entry = e
  · simp [hsame]
  · cases hd : d.entry.enable <;> cases he : e.enable <;> simp_all

/-- A group after its stored entry has come into force (R95). -/
theorem group_takeEntry (g : Group) (e : GroupEntry) :
    (g.takeEntry e).entry = e ∧ (g.takeEntry e).applied = g.applied ∧
    ((g.takeEntry e).timer = if g.entry ≠ e then 0 else g.timer) ∧
    ((g.takeEntry e).target = if g.entry ≠ e ∧ g.target ≤ 60 ∧ e.floor < g.target then e.floor else g.target) := by
  unfold Group.takeEntry
  by_cases hsame : g.entry = e
  · simp [hsame]
  · simp [hsame]

theorem sgd_windowStart_detector (g : Sgd) (restart : Bool) (t : Tables) (i : Fin 24) :
    (g.windowStart restart t).detectors.get i =
      (let d := ((if restart then g.restarted else g).detectors.get i).takeEntry (detectorOf (t.detectors.get i))
       if (if restart then g.restarted else g).clearDetectors.getLsbD i.val then d.applyClear else d) := by
  unfold Sgd.windowStart Sgd.applyClears Sgd.takeEntries
  rw [Regs.get_tab, Regs.get_zip]

theorem sgd_windowStart_group (g : Sgd) (restart : Bool) (t : Tables) (i : Fin 8) :
    (g.windowStart restart t).groups.get i =
      (let d := ((if restart then g.restarted else g).groups.get i).takeEntry (groupOf (t.groups.get i))
       if (if restart then g.restarted else g).clearGroups.getLsbD i.val then d.applyClear else d) := by
  unfold Sgd.windowStart Sgd.applyClears Sgd.takeEntries
  rw [Regs.get_tab, Regs.get_zip]

/-! ### The survey -/

/-- A pending start comes into force with its sums empty, and begins at trigger NOW or at one that is pending (R197). -/
theorem svu_windowStart_start {v : Svu} {c : SurveyConfig} (hstart : v.startPending = some c) (hstate : v.state ≠ .idle) :
    (c.trigger = .now ∨ v.triggerPending = true → v.windowStart false =
      { state := .measuring, config := some c, startPending := none, triggerPending := false, position := 0
        counter := 0, sum := 0, peak := 0, envelope := 0
        reference := if c.mode = .decay then some (-480) else none, t20 := none, t30 := none
        sequence := v.sequence }) ∧
    (c.trigger ≠ .now → v.triggerPending = false → v.windowStart false =
      { state := v.state, config := some c, startPending := none, triggerPending := false, position := 0
        counter := 0, sum := 0, peak := 0, envelope := 0, reference := none, t20 := none, t30 := none
        sequence := v.sequence }) := by
  have hlev : lev 0 = -480 := lev_zero
  unfold Svu.windowStart Svu.takeConfig
  simp only [hstart, Bool.false_eq_true, if_false]
  constructor
  · intro h
    have hgo : (v.triggerPending || c.trigger == .now) = true := by
      rcases h with h | h <;> simp [h]
    simp only [hgo, Svu.emptied, Svu.begin, hlev]
    by_cases hmode : c.mode = .decay <;> simp [hmode, hstate]
  · intro htrigger hpending
    simp [htrigger, hpending, Svu.emptied]

theorem svu_windowStart_quiet {v : Svu} (hstart : v.startPending = none)
    (h : v.triggerPending = false ∨ v.state = .idle) : v.windowStart false = v := by
  unfold Svu.windowStart Svu.takeConfig
  simp only [hstart, Bool.false_eq_true, if_false]
  rcases h with h | h <;> simp [h]

/-- A trigger that is pending begins a measurement (R197, R203). -/
theorem svu_windowStart_trigger {v : Svu} {c : SurveyConfig} (hstart : v.startPending = none)
    (hpending : v.triggerPending = true) (hstate : v.state ≠ .idle) (hconfig : v.config = some c) :
    (c.mode ≠ .decay → v.windowStart false = { v with
      state := .measuring, triggerPending := false, position := 0, counter := 0, sum := 0, peak := 0 }) ∧
    (c.mode = .decay → v.windowStart false = { v with
      state := .measuring, triggerPending := false, position := 0, counter := 0, sum := 0, peak := 0
      reference := some (lev v.envelope), t20 := none, t30 := none }) := by
  unfold Svu.windowStart Svu.takeConfig Svu.begin
  simp only [hstart, Bool.false_eq_true, if_false]
  constructor
  · intro hmode
    simp [hpending, hstate, hconfig, hmode]
  · intro hmode
    simp [hpending, hstate, hconfig, hmode]

/-- Settles O34: each block takes its stored tables into force at a window start without RESTART. -/
theorem windowStartTakesTablesIntoForce : Obligations.WindowStartTakesTablesIntoForce := by
  intro time s hrestart t changed
  have hdmc : t.dmc = _ := startBlocks_dmc_eq time s
  have htpe : t.tpe = _ := startBlocks_tpe time s
  have hsgd : t.sgd = s.sgd.windowStart s.cmu.restartPending s.tables := startBlocks_sgd s time
  have hsvu : t.svu = s.svu.windowStart s.cmu.restartPending := startBlocks_svu s time
  have hios : t.ios = s.ios.windowStart s.cmu.restartPending s.tables := startBlocks_ios s time
  have hscc : t.scc = _ := startBlocks_scc s time
  have hrrx : t.rrx = s.rrx.windowStart time s.tables.ringset := startBlocks_rrx s time
  have hlapse : t.lapse = _ := startBlocks_lapse time s
  have hlines : ∀ i, t.lines.get i = _ := startBlocks_lines_get s time
  have hcmu : t.cmu = s.cmu := by
    show (startBlocks time s).cmu = _
    rw [startBlocks_cmu, ← hrestart]
  have hkept : t.tables = s.tables ∧ t.tld = s.tld ∧ t.rtx = s.rtx ∧ t.memory = s.memory :=
    ⟨startBlocks_tables s time, startBlocks_tld s time, startBlocks_rtx s time, startBlocks_memory s time⟩
  clear_value t
  simp only [hrestart, Bool.false_eq_true, if_false] at hdmc htpe hsgd hsvu hios hscc hlines
  obtain ⟨due, pending, htiming⟩ := takeTiming_frame s.dmc (timingOf s.tables.timing) time
  obtain ⟨hon, hoff, hnew⟩ := takeTiming_enable s.dmc (timingOf s.tables.timing) time
  rw [htiming] at hdmc hon hoff hnew
  have hforce : t.dmc.timing = timingOf s.tables.timing := by rw [hdmc]
  refine ⟨hcmu, hkept.1, hkept.2.1, hkept.2.2.1, hkept.2.2.2, fun i => ⟨fun h => ?_, fun h => ?_⟩, fun k => ?_, ?_, hforce,
    by rw [hdmc], by rw [hdmc], by rw [hdmc], ?_, ?_, ?_, hscc, fun i => ?_, fun i => ?_, by rw [hios]; rfl,
    by rw [hios]; rfl, by rw [hios]; rfl, fun i => ?_, fun i => ?_, by rw [hsgd]; rfl, by rw [hsgd]; rfl, by rw [hrrx]; rfl,
    by rw [hrrx]; rfl, by rw [hlapse, hforce]; rfl, fun c hstart hstate => ?_, fun hstart h => ?_,
    fun c hstart hpending hstate hconfig => ?_⟩
  · rw [hlines, startLine_changed h]
  · rw [hlines, startLine_same h]
  · rw [htpe]
    exact takeGeometry_held _ s k
  · rw [htpe]
    rfl
  · rw [hforce, hdmc]
    exact hon
  · rw [hforce, hdmc]
    exact hoff
  · rw [hforce, hdmc]
    exact hnew
  · rw [hios]
    exact Regs.get_map _ _ i
  · rw [hios]
    exact Regs.get_map _ _ i
  · rw [hsgd, sgd_windowStart_detector]
    obtain ⟨h1, h2, h3, h4, h5, h6, h7, h8⟩ :=
      detector_takeEntry (s.sgd.detectors.get i) (detectorOf (s.tables.detectors.get i))
    cases hclear : s.sgd.clearDetectors.getLsbD i.val
    · simp only [hclear, Bool.false_eq_true, if_false, false_or, Bool.not_false, Bool.and_true]
      exact ⟨h1, h2, h3, h4, h5, h6, h7, h8⟩
    · simp only [hclear, Bool.false_eq_true, if_false, if_true, true_or, Bool.not_true, Bool.and_false]
      exact ⟨h1, h2, rfl, rfl, rfl, h6, h7, h8⟩
  · rw [hsgd, sgd_windowStart_group]
    obtain ⟨h1, h2, h3, h4⟩ := group_takeEntry (s.sgd.groups.get i) (groupOf (s.tables.groups.get i))
    cases hclear : s.sgd.clearGroups.getLsbD i.val
    · simp only [hclear, Bool.false_eq_true, if_false, false_or]
      exact ⟨h1, h2, h3, h4⟩
    · simp only [hclear, Bool.false_eq_true, if_false, if_true, true_or]
      exact ⟨h1, h2, rfl, rfl⟩
  · rw [hsvu]
    exact svu_windowStart_start hstart hstate
  · rw [hsvu]
    exact svu_windowStart_quiet hstart h
  · rw [hsvu]
    exact svu_windowStart_trigger hstart hpending hstate hconfig

/-! ### RESTART -/

theorem detector_restarted_takeEntry (d : Detector) (e : DetectorEntry) :
    d.restarted.takeEntry e = ⟨e, 0, 0, 0, 0, 0, false, d.total⟩ := by
  unfold Detector.takeEntry
  split
  · next h =>
    subst h
    rfl
  · split
    · rfl
    · split <;> rfl

theorem group_restarted_takeEntry (g : Group) (e : GroupEntry) : g.restarted.takeEntry e = ⟨e, 0, 0, 0⟩ := by
  unfold Group.takeEntry
  split
  · next h =>
    subst h
    rfl
  · simp [Group.restarted]

/-- No survey is left to begin after RESTART (R204). -/
theorem svu_windowStart_restart (v : Svu) : v.windowStart true = v.restarted := rfl

/-- Settles O32: each block after a window start with RESTART. -/
theorem restartActsAtTheWindowStart : Obligations.RestartActsAtTheWindowStart := by
  intro time s hrestart t
  have hdmc : t.dmc = _ := startBlocks_dmc_eq time s
  have htpe : t.tpe = _ := startBlocks_tpe time s
  have hsgd : t.sgd = s.sgd.windowStart s.cmu.restartPending s.tables := startBlocks_sgd s time
  have hsvu : t.svu = s.svu.windowStart s.cmu.restartPending := startBlocks_svu s time
  have hios : t.ios = s.ios.windowStart s.cmu.restartPending s.tables := startBlocks_ios s time
  have hscc : t.scc = _ := startBlocks_scc s time
  have hlines : ∀ i, t.lines.get i = _ := startBlocks_lines_get s time
  have hkept : t.cmu = { s.cmu with restartPending := false } ∧ t.tables = s.tables ∧ t.tld = s.tld ∧ t.rtx = s.rtx ∧
      t.memory = s.memory ∧ t.inWindow = s.inWindow ∧ t.rrx = s.rrx.windowStart time s.tables.ringset :=
    ⟨startBlocks_cmu s time, startBlocks_tables s time, startBlocks_tld s time, startBlocks_rtx s time,
      startBlocks_memory s time, startBlocks_inWindow s time, startBlocks_rrx s time⟩
  clear_value t
  simp only [hrestart, if_true] at hdmc htpe hsgd hsvu hios hscc hlines
  obtain ⟨due, pending, htiming⟩ := takeTiming_frame s.dmc (timingOf s.tables.timing) time
  rw [htiming] at hdmc
  obtain ⟨hcmu, htables, htld, hrtx, hmemory, hwindow, hrrx⟩ := hkept
  refine ⟨hcmu, htables, htld, hrtx, hmemory, hwindow, hrrx, fun i => ?_, fun i => ?_, fun i => ?_, by rw [htpe]; rfl,
    by rw [hdmc], by rw [hdmc], by rw [hdmc], by rw [hdmc], by rw [hdmc], by rw [hdmc], by rw [hdmc], by rw [hdmc], hscc,
    fun i => ?_, fun g => ?_, by rw [hsgd]; rfl, by rw [hsgd]; rfl, fun i => ?_, fun i => ?_, by rw [hios]; rfl,
    by rw [hios]; rfl, ?_⟩
  · rw [hlines, Line.cleared, startLine_base, startLine_rows]
  · rw [htpe]
    exact Regs.get_map _ _ i
  · rw [htpe]
    exact Regs.get_fill _ i
  · have hclear : (0#24).getLsbD i.val = false := by simp
    rw [hsgd, sgd_windowStart_detector]
    simp only [if_true, Sgd.restarted, Regs.get_map, hclear, Bool.false_eq_true, if_false]
    exact detector_restarted_takeEntry _ _
  · have hclear : (0#8).getLsbD g.val = false := by simp
    rw [hsgd, sgd_windowStart_group]
    simp only [if_true, Sgd.restarted, Regs.get_map, hclear, Bool.false_eq_true, if_false]
    exact group_restarted_takeEntry _ _
  · rw [hios]
    exact ⟨Regs.get_map _ _ i, Regs.get_map _ _ i⟩
  · rw [hios]
    exact ⟨Regs.get_map _ _ i, Regs.get_map _ _ i⟩
  · rw [hsvu, svu_windowStart_restart]
    exact ⟨rfl, rfl, rfl, rfl, rfl, rfl⟩

end Sys2Proof.Machine
end

section
/-! The bits of a frame in their places (R131, R132, R206). -/

namespace Sys2Proof.Machine

/-- A field travels most significant bit first. -/
theorem bitsOf_toNat_getElem? {n : Nat} (x : BitVec n) {i : Nat} (h : i < n) :
    (bitsOf n x.toNat)[i]? = some (x.getMsbD i) := by
  rw [bitsOf_getElem? n _ i h, BitVec.getMsbD, BitVec.getLsbD, decide_eq_true h, Bool.true_and]

/-- Past a first part of a list stands the rest. -/
theorem getElem?_append_add {α : Type} (a b : List α) {n : Nat} (hn : a.length = n) (i : Nat) :
    (a ++ b)[n + i]? = b[i]? := by
  rw [List.getElem?_append_right (by omega), hn, Nat.add_sub_cancel_left]

/-- The bits of the `k`-th of many fields of one width. -/
theorem flatMap_getElem? {α β : Type} {n : Nat} (g : α → List β) (hg : ∀ x, (g x).length = n) (l : List α) (k : Nat)
    (hk : k < l.length) {i : Nat} (hi : i < n) : (l.flatMap g)[n * k + i]? = (g l[k])[i]? := by
  induction l generalizing k with
  | nil => exact absurd hk (Nat.not_lt_zero k)
  | cons x l ih =>
    rw [List.flatMap_cons]
    cases k with
    | zero =>
      rw [Nat.mul_zero, Nat.zero_add, List.getElem?_append_left (by rw [hg]; exact hi)]
      rfl
    | succ k =>
      have hplace : n * (k + 1) + i = n + (n * k + i) := by rw [Nat.mul_succ]; omega
      rw [hplace, getElem?_append_add _ _ (hg x), ih k (Nat.lt_of_succ_lt_succ hk)]
      rfl

variable (f : Frame)

/-- The bits of the 128 slots. -/
def slotBits : List Bool := f.slots.cells.flatMap fun x => bitsOf 24 x.toNat

theorem slotBits_length : (slotBits f).length = 3072 := by simp [slotBits, f.slots.size]

theorem slotBits_getElem? (k : Fin 128) {i : Nat} (hi : i < 24) :
    (slotBits f)[24 * k.val + i]? = some ((f.slots.get k).getMsbD i) := by
  rw [slotBits, flatMap_getElem? _ (fun _ => bitsOf_length _ _) _ k.val (by rw [f.slots.size]; exact k.isLt) hi]
  exact bitsOf_toNat_getElem? (f.slots.get k) hi

/-- The parts of a frame, in order (R131, R206). -/
theorem frameBits_parts : frameBits f = bitsOf 16 f.sync.toNat ++ (bitsOf 8 f.number.toNat ++ ([f.mark, f.origin] ++
    (slotBits f ++ (bitsOf 4 f.kind.toNat ++ (bitsOf 24 f.payload.toNat ++ bitsOf 16 f.check.toNat))))) := by
  simp [frameBits, contentBits, slotBits]

/-- What stands from the number on. -/
theorem frameBits_from_number (i : Nat) : (frameBits f)[16 + i]? = (bitsOf 8 f.number.toNat ++ ([f.mark, f.origin] ++
    (slotBits f ++ (bitsOf 4 f.kind.toNat ++ (bitsOf 24 f.payload.toNat ++ bitsOf 16 f.check.toNat)))))[i]? := by
  rw [frameBits_parts, getElem?_append_add _ _ (bitsOf_length 16 _)]

/-- What stands from the flags on. -/
theorem frameBits_from_flags (i : Nat) : (frameBits f)[24 + i]? = ([f.mark, f.origin] ++
    (slotBits f ++ (bitsOf 4 f.kind.toNat ++ (bitsOf 24 f.payload.toNat ++ bitsOf 16 f.check.toNat))))[i]? := by
  rw [show 24 + i = 16 + (8 + i) by omega, frameBits_from_number, getElem?_append_add _ _ (bitsOf_length 8 _)]

/-- What stands from the slots on. -/
theorem frameBits_from_slots (i : Nat) : (frameBits f)[26 + i]? =
    (slotBits f ++ (bitsOf 4 f.kind.toNat ++ (bitsOf 24 f.payload.toNat ++ bitsOf 16 f.check.toNat)))[i]? := by
  rw [show 26 + i = 24 + (2 + i) by omega, frameBits_from_flags,
    getElem?_append_add [f.mark, f.origin] _ (n := 2) rfl]

/-- What stands from the cell on. -/
theorem frameBits_from_cell (i : Nat) : (frameBits f)[3098 + i]? =
    (bitsOf 4 f.kind.toNat ++ (bitsOf 24 f.payload.toNat ++ bitsOf 16 f.check.toNat))[i]? := by
  rw [show 3098 + i = 26 + (3072 + i) by omega, frameBits_from_slots, getElem?_append_add _ _ (slotBits_length f)]

/-- What stands from the cell's payload on. -/
theorem frameBits_from_payload (i : Nat) : (frameBits f)[3102 + i]? =
    (bitsOf 24 f.payload.toNat ++ bitsOf 16 f.check.toNat)[i]? := by
  rw [show 3102 + i = 3098 + (4 + i) by omega, frameBits_from_cell, getElem?_append_add _ _ (bitsOf_length 4 _)]

/-- The checked contents are bits 16 to 3125 (R132). -/
theorem frameBits_contents : ((frameBits f).drop 16).take 3110 = contentBits f := by
  rw [frameBits, List.append_assoc, List.drop_left' (bitsOf_length 16 _), List.take_left' (contentBits_length f)]

/-- One bit at the check register (R132). -/
theorem checkOver_cons (b : Bool) (l : List Bool) (r : BitVec 16) :
    checkOver (b :: l) r = checkOver l (if r.msb = b then r <<< 1 else (r <<< 1) ^^^ 0x3D65#16) := by
  rw [checkOver]
  cases r.msb <;> cases b <;> rfl

/-- Settles O31: each field of a frame from the parts before it. -/
theorem frameBitsAreInTheirPlaces : Obligations.FrameBitsAreInTheirPlaces := by
  refine ⟨fun f => ?_, fun _ => rfl, checkOver_cons⟩
  refine ⟨frameBits_length f, fun i hi => ?_, fun i hi => ?_, frameBits_from_flags f 0, frameBits_from_flags f 1,
    fun k i hi => ?_, fun i hi => ?_, fun i hi => ?_, fun i hi => ?_, ?_, fun s hs => ⟨fun hcut => ?_, fun n hcut => ?_⟩,
    fun time hform => ?_⟩
  · rw [frameBits_parts, List.getElem?_append_left (by rw [bitsOf_length]; exact hi), bitsOf_toNat_getElem? _ hi]
  · rw [frameBits_from_number, List.getElem?_append_left (by rw [bitsOf_length]; exact hi), bitsOf_toNat_getElem? _ hi]
  · rw [Nat.add_assoc, frameBits_from_slots, List.getElem?_append_left (by rw [slotBits_length]; omega),
      slotBits_getElem? f k hi]
  · rw [frameBits_from_cell, List.getElem?_append_left (by rw [bitsOf_length]; exact hi), bitsOf_toNat_getElem? _ hi]
  · rw [frameBits_from_payload, List.getElem?_append_left (by rw [bitsOf_length]; exact hi), bitsOf_toNat_getElem? _ hi]
  · rw [show 3126 + i = 3102 + (24 + i) by omega, frameBits_from_payload, getElem?_append_add _ _ (bitsOf_length 24 _),
      bitsOf_toNat_getElem? _ hi]
  · rw [frameBits_contents]
    simp [frameGood, correctCheck]
  · simp [ringOutput, ringBits, hs, hcut]
  · simp [ringOutput, ringBits, hs, hcut]
  · have hsync : (f.sync == syncPattern) = true := (Bool.and_eq_true_iff.1 hform).1
    exact eq_of_beq hsync

end Sys2Proof.Machine
end

section
/-! A good frame that is followed: the frame forwarded with the outputs in their slots, the offered cell and the
receiver (R127, R135, R141 to R149). -/

namespace Sys2Proof.Machine

variable {s : State} {time : Nat} {j : Taken}

/-! ### The outputs in their slots (R127) -/

/-- The slots once an output has been placed in the slot that it names. -/
def withOutput (slots : Regs Sample 128) (p : Placed) : Regs Sample 128 :=
  match p.slot with
  | some k => slots.put k p.sample
  | none => slots

theorem placeEntry_eq (e : QueueEntry) (slots : Regs Sample 128) :
    placeEntry e slots = e.cells.foldl withOutput slots := rfl

theorem withOutput_same {p : Placed} {k : Fin 128} (h : p.slot = some k) (slots : Regs Sample 128) :
    (withOutput slots p).get k = p.sample := by
  simp [withOutput, h]

theorem withOutput_ne {p : Placed} {k : Fin 128} (h : p.slot ≠ some k) (slots : Regs Sample 128) :
    (withOutput slots p).get k = slots.get k := by
  unfold withOutput
  split
  · next i hi => exact Regs.get_put_ne _ _ fun he => h (he ▸ hi)
  · rfl

theorem foldl_withOutput_ne {l : List Placed} {k : Fin 128} (h : ∀ p ∈ l, p.slot ≠ some k) (slots : Regs Sample 128) :
    (l.foldl withOutput slots).get k = slots.get k := by
  induction l generalizing slots with
  | nil => rfl
  | cons p l ih =>
    rw [List.foldl_cons, ih (fun q hq => h q (List.mem_cons_of_mem _ hq)), withOutput_ne (h p List.mem_cons_self)]

/-- A slot that no output names passes through. -/
theorem placeEntry_ne {e : QueueEntry} {k : Fin 128} (h : ∀ j, (e.get j).slot ≠ some k) (slots : Regs Sample 128) :
    (placeEntry e slots).get k = slots.get k :=
  foldl_withOutput_ne ((Regs.forall_cells e).2 h) slots

/-- Of the outputs that name a slot the highest-numbered one takes it. -/
theorem placeEntry_last {e : QueueEntry} {k : Fin 128} {j : Fin 48} (h : (e.get j).slot = some k)
    (hlast : ∀ i, j < i → (e.get i).slot ≠ some k) (slots : Regs Sample 128) :
    (placeEntry e slots).get k = (e.get j).sample := by
  have hsize : j.val < e.cells.length := by rw [e.size]; exact j.isLt
  have hlater : ∀ p ∈ e.cells.drop (j.val + 1), p.slot ≠ some k := fun p hp => by
    obtain ⟨i, hi, rfl⟩ := List.getElem_of_mem hp
    rw [List.getElem_drop, ← Regs.get_eq_getElem (i := ⟨j.val + 1 + i, by simp [e.size] at hi; omega⟩)]
    exact hlast _ (Fin.lt_def.2 (by simp; omega))
  rw [placeEntry_eq, ← List.take_append_drop j.val e.cells, List.drop_eq_getElem_cons hsize, List.foldl_append,
    List.foldl_cons, foldl_withOutput_ne hlater, ← Regs.get_eq_getElem, withOutput_same h]

/-! ### The cell of a good frame (R148, R166) -/

/-- The Command Unit once a good frame of a kind has been sent: an IDLE cell takes a reply cell (R166). -/
def Cmu.offered (k : Cmu) (kind : BitVec 4) : Cmu := { k with
  replyBuffer := if kind = 0 then k.replyBuffer.tail else k.replyBuffer
  headerHeld := if kind = 0 ∧ k.replyBuffer ≠ [] then false else k.headerHeld
  unit := if kind = 0 ∧ k.replyBuffer.length = 1 then (if k.assembly.isSome then .assembling else .idle) else k.unit }

theorem forwardedCell_busy {f : Frame} (h : f.kind ≠ 0) (k : Cmu) : forwardedCell f k = (⟨f.kind, f.payload⟩, k) :=
  if_neg h

theorem forwardedCell_cmu (f : Frame) (k : Cmu) : (forwardedCell f k).2 = k.offered f.kind := by
  by_cases h : f.kind = 0
  · rcases offerCell_cases k with ⟨hb, e⟩ | ⟨_, hb, e⟩ | ⟨_, _, _, hb, e⟩
    · have hsame : k.replyBuffer.tail = k.replyBuffer := by rw [hb]; rfl
      have hlen : k.replyBuffer.length ≠ 1 := by rw [hb]; decide
      rw [Cmu.offered, hsame, ite_self, if_neg (fun hn => hlen hn.2), if_neg (fun hn => hn.2 hb)]
      simp [forwardedCell, h, e]
    all_goals simp [forwardedCell, Cmu.offered, h, e, hb]
  · rw [forwardedCell_busy h, Cmu.offered, if_neg h, if_neg (not_and_of_not_left _ h), if_neg (not_and_of_not_left _ h)]

theorem forwardedCell_none {f : Frame} {k : Cmu} (h : f.kind = 0) (hb : k.replyBuffer = []) :
    (forwardedCell f k).1 = ⟨f.kind, f.payload⟩ := by
  simp [forwardedCell, h, offerCell, hb]

theorem forwardedCell_head {f : Frame} {k : Cmu} {c : Cell} {rest : List Cell} (h : f.kind = 0)
    (hb : k.replyBuffer = c :: rest) : (forwardedCell f k).1 = c := by
  cases rest <;> simp [forwardedCell, h, offerCell, hb]

/-! ### The Command Unit at the end of the tap pass -/

/-- A followed frame reaches the Command Unit by its offer alone, but for the fault record and a RESTART that acts. -/
theorem windowStaged_cmu_followed (hlock : cellsReach j.rrx.lock = true) (hlost : j.lost = false)
    (hsearching : j.searching = false) (f : Frame) (d : Nat) : ∃ a b,
    (windowStaged (.good f) d (windowStart time j s)).cmu =
      { (s.cmu.offered f.kind).withFaults a b with restartPending := false } := by
  obtain ⟨_, _, hstart, _⟩ := windowStart_cmu time j s
  rw [taken_kept _ _ hlost hsearching] at hstart
  have hsend : (sendFrame (.good f) (windowStart time j s)).cmu = (windowStart time j s).cmu.offered f.kind := by
    rw [sendFrame_good (by rw [windowStart_lock, hlock])]
    exact forwardedCell_cmu f _
  obtain ⟨_, a, b, _, hidle⟩ := idleStart_frame (s := sendFrame (.good f) (windowStart time j s)) (.good f) d
  refine ⟨a, b, ?_⟩
  rw [windowStaged_cmu, hidle, hsend, hstart]
  rfl

/-- The same after the end of the window that still ran. -/
theorem windowStaged_cmu_opened (hlock : cellsReach j.rrx.lock = true) (hlost : j.lost = false)
    (hsearching : j.searching = false) (f : Frame) (d : Nat) : ∃ a b,
    (windowStaged (.good f) d (windowStart time j (endWindow s))).cmu =
      { (s.cmu.offered f.kind).withFaults a b with restartPending := false } := by
  obtain ⟨a, b, h⟩ := windowStaged_cmu_followed (s := endWindow s) (time := time) hlock hlost hsearching f d
  refine ⟨a, b, ?_⟩
  rw [h, endWindow_cmu]
  rfl

end Sys2Proof.Machine
end

section
/-! A good frame in LOCKED or FLYWHEEL (R127, R135, R137, R141 to R144, R147 to R149). -/

namespace Sys2Proof.Machine

variable {s : State} {time : Nat} {j : Taken}

/-- What the receiver makes of a good frame that it follows. -/
def followed (time : Nat) (f : Frame) (r : Rrx) : Taken := Taken.opens (r.takeFollowed time f) (.good f)

theorem exec_followed (hrows : rowsExist s = true) (hfollow : s.rrx.lock = .locked ∨ s.rrx.lock = .flywheel) {f : Frame}
    (hgood : frameGood f = true) (hlate : s.rrx.lastStart + 461 ≤ time) : exec (.frameArrival time f) s =
      .next (openWindow time (followed time f s.rrx) (.good f) (endWindow s)) := by
  rw [exec_frameArrival, takeFrame_good hfollow hgood hlate]
  exact ringOutcome_opens rfl hrows

/-- The period of R135: a sixteenth of the way toward an interval of at most 563 ticks. -/
theorem nextPeriod_eq {period interval : Nat} (h : 461 ≤ interval) : (nextPeriod period interval : Int) =
    if interval ≤ 563 then max 0 ((period : Int) + ((interval : Int) - (period : Int)) / 16) else (period : Int) := by
  unfold nextPeriod
  by_cases hle : interval ≤ 563
  · simp [h, hle, max_comm]
  · simp [hle]

theorem takeFollowed_period {r : Rrx} (hlate : r.lastStart + 461 ≤ time) (f : Frame) :
    ((r.takeFollowed time f).period : Int) =
      if r.lock = .locked ∧ r.firstPending = false ∧ time ≤ r.lastStart + 563 then
        max 0 ((r.period : Int) + ((time : Int) - (r.lastStart : Int) - (r.period : Int)) / 16)
      else (r.period : Int) := by
  show ((if r.lock = .locked ∧ r.firstPending = false then nextPeriod r.period (time - r.lastStart)
    else r.period : Nat) : Int) = _
  by_cases hfirst : r.lock = .locked ∧ r.firstPending = false
  · rw [if_pos hfirst, nextPeriod_eq (by omega), Int.ofNat_sub (by omega)]
    refine if_congr ⟨fun h => ⟨hfirst.1, hfirst.2, by omega⟩, fun h => by omega⟩ rfl rfl
  · rw [if_neg hfirst, if_neg fun h => hfirst ⟨h.1, h.2.1⟩]

/-- The offered reply is gone from the buffer after the window's opening, where the frame completes no message. -/
theorem opened_replyBuffer (hlock : cellsReach j.rrx.lock = true) (hlost : j.lost = false)
    (hsearching : j.searching = false) {f : Frame} (hkind : f.kind ≠ 3) :
    (openWindow time j (.good f) (endWindow s)).cmu.replyBuffer = (s.cmu.offered f.kind).replyBuffer := by
  have hcalm : Calm j.rrx.lock (.good f) (endWindow s).cmu := fun g hg hk => by
    cases hg
    exact absurd hk hkind
  obtain ⟨k, ⟨_, _, _, _, _, _, _, _, hk⟩, hopen⟩ := openWindow_calm hcalm time
  obtain ⟨a, b, hstaged⟩ := windowStaged_cmu_opened (s := s) (time := time) hlock hlost hsearching f
    (endWindow s).draws
  rw [hopen]
  show k.replyBuffer = _
  rw [hk, marked_cmu, hstaged]
  rfl

/-- Settles O21: the receiver follows the frame, and the frame sent is the frame received with the outputs in their
slots and the offered cell. -/
theorem goodFrameIsFollowed : Obligations.GoodFrameIsFollowed := by
  intro time f s hrows hfollow hgood hlate
  have hexec := exec_followed hrows hfollow hgood hlate
  have hperiod := takeFollowed_period hlate f
  obtain ⟨badFrames, missingFrames, slips, lockLosses, hrrx⟩ :=
    openWindow_rrx_counters time (followed time f s.rrx) (.good f) (endWindow s)
  obtain ⟨c, hrtx, hc⟩ := openWindow_good_rtx (j := followed time f s.rrx) rfl f time (endWindow s)
  have hcalm (hkind : f.kind ≠ 3) := openWindow_rrx (time := time) (j := followed time f s.rrx) (o := .good f)
    (s := endWindow s) fun g hg hk => by cases hg; exact absurd hk hkind
  have hreply (hkind : f.kind ≠ 3) := opened_replyBuffer (s := s) (time := time) (j := followed time f s.rrx) rfl rfl rfl
    hkind
  have hopen := openWindow_inWindow time (followed time f s.rrx) (.good f) (endWindow s)
  have hbuffer : (windowStart time (followed time f s.rrx) (endWindow s)).cmu.replyBuffer = s.cmu.replyBuffer := by
    obtain ⟨_, _, hstart, _⟩ := windowStart_cmu time (followed time f s.rrx) (endWindow s)
    rw [hstart, taken_kept _ _ rfl rfl, endWindow_cmu]
    rfl
  rw [endWindow_ringset] at hrrx hcalm
  generalize openWindow time (followed time f s.rrx) (.good f) (endWindow s) = t at *
  generalize windowStart time (followed time f s.rrx) (endWindow s) = w at *
  refine ⟨t, forwarded f (queueHead (endWindow s)) c, hexec, ?_⟩
  rw [hrtx, hrrx]
  refine ⟨rfl, rfl, rfl, rfl, ?_, hperiod, rfl, rfl, rfl, rfl, fun hkind => ?_, hopen, rfl, rfl, rfl,
    forwarded_good hgood _ _, rfl, rfl, rfl, rfl, ⟨rfl, fun k h => placeEntry_ne h _, fun k i h hl => placeEntry_last h hl _⟩,
    fun hbusy => ?_, fun hidle hnone => ?_, fun cell rest hidle hhead => ?_⟩
  · show (if s.rrx.lock = .locked then false else true) = true ↔ _
    rcases hfollow with h | h <;> simp [h]
  · have hslips := congrArg Rrx.slips (hrrx.symm.trans (hcalm hkind))
    exact hslips
  · rw [forwardedCell_busy hbusy] at hc
    rw [hc]
    exact ⟨rfl, rfl⟩
  · rw [forwardedCell_none hidle (hbuffer.trans hnone)] at hc
    rw [hc]
    exact ⟨hidle, rfl⟩
  · rw [forwardedCell_head hidle (hbuffer.trans hhead)] at hc
    refine ⟨congrArg Cell.kind hc, congrArg Cell.payload hc, ?_⟩
    rw [hreply (by rw [hidle]; decide)]
    show (if f.kind = 0 then s.cmu.replyBuffer.tail else s.cmu.replyBuffer) = rest
    rw [if_pos hidle, hhead]
    rfl

end Sys2Proof.Machine
end

section
/-! A command's judgement does not read the message record or the unit state: the message that cells complete is taken
as its own row takes it (R161, R162). -/

namespace Sys2Proof.Machine

variable {s : State}

/-- The state with the message record, the unit state and the node address of another Command Unit. -/
def State.recorded (s : State) (k : Cmu) : State :=
  { s with cmu := { s.cmu with words := k.words, unit := k.unit, nodeAddress := k.nodeAddress } }

/-- The verdict of a command with another record. -/
def Verdict.recorded (v : Verdict) (k : Cmu) : Verdict := { v with after := v.after.recorded k }

variable (k : Cmu) (args : List Word)

theorem takeStatus_recorded (s : State) :
    takeStatus args (s.recorded k) = (takeStatus args s).recorded k := by
  unfold takeStatus
  split <;> rfl

theorem takeRead_recorded (s : State) :
    takeRead args (s.recorded k) = (takeRead args s).recorded k := by
  unfold takeRead
  dsimp only
  split
  · rfl
  · split
    · rfl
    · split <;> rfl

theorem takeWrite_recorded (s : State) :
    takeWrite args (s.recorded k) = (takeWrite args s).recorded k := by
  have htables : (s.recorded k).tables = s.tables := rfl
  have hlock : (s.recorded k).scc = s.scc := rfl
  have hload : (s.recorded k).tld = s.tld := rfl
  have hshadow : shadowName (s.recorded k) = shadowName s := rfl
  simp only [takeWrite, htables, hlock, hload, hshadow]
  (repeat' split) <;> rfl

theorem takeLoadOpen_recorded (s : State) :
    takeLoadOpen args (s.recorded k) = (takeLoadOpen args s).recorded k := by
  have hlock : (s.recorded k).scc = s.scc := rfl
  have hload : (s.recorded k).tld = s.tld := rfl
  simp only [takeLoadOpen, hlock, hload]
  (repeat' split) <;> rfl

theorem loadWords_cmu (r : State × Nat) : (args.foldl loadWord r).1.cmu = r.1.cmu :=
  congrArg (fun p => p.1.cmu) (loadWords_withCmu args r r.1.cmu)

theorem loadWords_recorded (r : State × Nat) : args.foldl loadWord (r.1.recorded k, r.2) =
    ((args.foldl loadWord r).1.recorded k, (args.foldl loadWord r).2) := by
  rw [State.recorded, loadWords_withCmu, State.recorded, loadWords_cmu]

theorem takeLoadData_recorded (s : State) :
    takeLoadData args (s.recorded k) = (takeLoadData args s).recorded k := by
  have hfold := loadWords_recorded k args ({ s with tld := { s.tld with idle := some 0 } }, 0)
  have hload : (s.recorded k).tld = s.tld := rfl
  unfold takeLoadData
  rw [hload]
  split
  · show (let r := args.foldl loadWord (State.recorded { s with tld := { s.tld with idle := some 0 } } k, 0)
      (⟨r.1, .ok, [loadDataWord r.2 r.1.tld.remaining (!r.1.tld.isOpen)]⟩ : Verdict)) = _
    rw [hfold]
    rfl
  · rfl

theorem takeLoadClose_recorded (s : State) :
    takeLoadClose args (s.recorded k) = (takeLoadClose args s).recorded k := by
  have hload : (s.recorded k).tld = s.tld := rfl
  unfold takeLoadClose
  rw [hload]
  split <;> rfl

theorem takeCommit_recorded (s : State) :
    takeCommit args (s.recorded k) = (takeCommit args s).recorded k := by
  have hscene : (s.recorded k).scc = s.scc := rfl
  have hload : (s.recorded k).tld = s.tld := rfl
  simp only [takeCommit, hscene, hload]
  (repeat' split) <;> rfl

theorem takeCancel_recorded (s : State) :
    takeCancel args (s.recorded k) = (takeCancel args s).recorded k := by
  have hscene : (s.recorded k).scc = s.scc := rfl
  simp only [takeCancel, hscene]
  split <;> rfl

theorem takeHush_recorded (s : State) :
    takeHush args (s.recorded k) = (takeHush args s).recorded k := by
  have hscene : (s.recorded k).scc = s.scc := rfl
  simp only [takeHush, hscene]
  split <;> rfl

theorem takeResume_recorded (s : State) :
    takeResume args (s.recorded k) = (takeResume args s).recorded k := by
  have hscene : (s.recorded k).scc = s.scc := rfl
  simp only [takeResume, hscene]
  split <;> rfl

theorem takeSurveyStart_recorded (s : State) :
    takeSurveyStart args (s.recorded k) = (takeSurveyStart args s).recorded k := by
  unfold takeSurveyStart
  split <;> rfl

/-- No command reads the record, the unit state or the address, and none writes them. -/
theorem run_recorded (c : Command) (s : State) :
    c.run args (s.recorded k) = (c.run args s).recorded k := by
  cases c with
  | status => exact takeStatus_recorded k args s
  | read => exact takeRead_recorded k args s
  | write => exact takeWrite_recorded k args s
  | loadOpen => exact takeLoadOpen_recorded k args s
  | loadData => exact takeLoadData_recorded k args s
  | loadClose => exact takeLoadClose_recorded k args s
  | commit => exact takeCommit_recorded k args s
  | cancel => exact takeCancel_recorded k args s
  | hush => exact takeHush_recorded k args s
  | resume => exact takeResume_recorded k args s
  | guardClear => rfl
  | surveyStart => exact takeSurveyStart_recorded k args s
  | surveyStop => rfl
  | faultClear => rfl
  | restart => rfl

theorem run_kept (c : Command) (s : State) : (c.run args s).after.cmu.unit = s.cmu.unit ∧
    (c.run args s).after.cmu.nodeAddress = s.cmu.nodeAddress := by
  have h : (c.run args s).after.cmu = ((c.run args s).recorded s.cmu).after.cmu :=
    congrArg (fun v => v.after.cmu) (run_recorded s.cmu args c s)
  have hunit := congrArg Cmu.unit h
  have haddress := congrArg Cmu.nodeAddress h
  exact ⟨hunit, haddress⟩

/-! ### The answer -/

/-- The state with another message record. -/
def State.withWords (s : State) (words : List Word) : State := { s with cmu := { s.cmu with words := words } }

theorem settleSwap_withWords (words : List Word) (s : State) :
    settleSwap (s.withWords words) = (settleSwap s).withWords words := by
  have hswap : swap (s.withWords words) = (swap s).withWords words := by
    unfold swap surveyTrigger
    dsimp only [State.withWords]
    (repeat' split) <;> rfl
  unfold settleSwap
  rw [hswap]
  show (if s.scc.swapDue && !s.inWindow then _ else _) = _
  split <;> rfl

theorem afterReply_withWords (c : Command) (status : Status) (words : List Word) (s : State) :
    c.afterReply status (s.withWords words) = (c.afterReply status s).withWords words := by
  by_cases hok : status = .ok
  · subst hok
    cases c with
    | commit => exact settleSwap_withWords words s
    | _ => rfl
  · cases c <;> simp [Command.afterReply, hok]

/-- The answer sets the unit state, so that of the record and the unit state before it only the record stays, and
whether a broadcast finds the unit REPLYING. -/
theorem answer_recorded {via : Addressee} {v : Verdict} (haddress : v.after.cmu.nodeAddress = k.nodeAddress)
    (hnode : via = .addressed → k.nodeAddress.isSome = true)
    (hunit : v.after.cmu.unit = .replying ↔ k.unit = .replying) (code : Nat) :
    answer via code (v.recorded k) = (answer via code v).withWords k.words := by
  cases via with
  | addressed =>
    obtain ⟨a, ha⟩ := Option.isSome_iff_exists.1 (hnode rfl)
    show formReply code v.status v.data (v.after.recorded k) = (formReply code v.status v.data v.after).withWords k.words
    unfold formReply
    rw [haddress, show (v.after.recorded k).cmu.nodeAddress = k.nodeAddress from rfl, ha]
    simp only [State.recorded, State.withWords, haddress, ha]
    rfl
  | broadcast =>
    show noReply (v.after.recorded k) = (noReply v.after).withWords k.words
    simp only [noReply, State.recorded, State.withWords, hunit, ← haddress]

/-- A command is judged and answered alike on another record. -/
theorem takeCommand_recorded {via : Addressee} {s : State} (haddress : s.cmu.nodeAddress = k.nodeAddress)
    (hnode : via = .addressed → k.nodeAddress.isSome = true) (hunit : s.cmu.unit = .replying ↔ k.unit = .replying)
    (c : Command) :
    takeCommand via c args (s.recorded k) = (takeCommand via c args s).withWords k.words := by
  obtain ⟨hkept, hsame⟩ := run_kept args c s
  unfold takeCommand
  split
  · exact answer_recorded k (via := .broadcast) (v := accept s) haddress (fun e => by cases e) hunit c.code
  · split
    · exact answer_recorded (v := refuse .length s) k haddress hnode hunit c.code
    · rw [run_recorded]
      show c.afterReply (c.run args s).status (answer via c.code ((c.run args s).recorded k)) = _
      rw [answer_recorded k (hsame.trans haddress) hnode (hkept ▸ hunit), afterReply_withWords]

end Sys2Proof.Machine
end

section
/-! The cells at the Command Unit: the assembly of a message and its END (R155 to R165, R168). -/

namespace Sys2Proof.Machine

variable {m : State} {p : Word} {via : Addressee}

/-! ### SELECT and WORD -/

/-- The Command Unit once the partial message, if any, has been discarded and counted (R156, R160). -/
def Cmu.discarded (k : Cmu) : Cmu := { k with
  assembly := none, truncated := if k.assembly.isSome then min (k.truncated + 1) 65535 else k.truncated }

theorem discarded_of_none {k : Cmu} (h : k.assembly = none) : k.discarded = k := by
  cases k
  cases h
  rfl

theorem discardAssembly_eq (s : State) : discardAssembly s = { s with cmu := s.cmu.discarded } := by
  rcases discardAssembly_cases s with ⟨h, e⟩ | ⟨h, e⟩
  · rw [e, discarded_of_none h]
  · rw [e, Cmu.discarded, if_pos h]
    rfl

theorem takeCell_word (p : Word) (m : State) : takeCell 2 p m = wordCell p m := rfl

theorem selectCell_broadcast (h : field p 5 0 = 63) : selectCell p m = { m with cmu := { m.cmu.discarded with
    unit := if m.cmu.unit = .replying then .replying else .assembling
    assembly := some .broadcast, words := [], overflow := false, damaged := false } } := by
  unfold selectCell
  rw [if_pos (show selectAddress p = 63 from h), discardAssembly_eq]
  rfl

theorem selectCell_addressed {a : Fin 63} (haddress : m.cmu.nodeAddress = some a) (h : field p 5 0 = a.val)
    (hunit : m.cmu.unit ≠ .replying) : selectCell p m = { m with cmu := { m.cmu.discarded with
      unit := .assembling, assembly := some .addressed, words := [], overflow := false, damaged := false } } := by
  have hnot : ¬selectAddress p = 63 := fun e => by have := a.isLt; unfold selectAddress at e; omega
  have hself : m.cmu.nodeAddress.map Fin.val = some (selectAddress p) := by rw [haddress, selectAddress, h]; rfl
  unfold selectCell
  rw [if_neg hnot, if_pos hself, if_neg hunit, discardAssembly_eq]
  show ({ m with cmu := { m.cmu.discarded with
    unit := if m.cmu.unit = .replying then .replying else .assembling
    assembly := some .addressed, words := [], overflow := false, damaged := false } } : State) = _
  rw [if_neg hunit]

theorem selectCell_dropped {a : Fin 63} (haddress : m.cmu.nodeAddress = some a) (h : field p 5 0 = a.val)
    (hunit : m.cmu.unit = .replying) : selectCell p m = { m with cmu := { m.cmu.discarded with
      overruns := min (m.cmu.overruns + 1) 65535, overrun := true } } := by
  have hnot : ¬selectAddress p = 63 := fun e => by have := a.isLt; unfold selectAddress at e; omega
  have hself : m.cmu.nodeAddress.map Fin.val = some (selectAddress p) := by rw [haddress, selectAddress, h]; rfl
  unfold selectCell
  rw [if_neg hnot, if_pos hself, if_pos hunit, discardAssembly_eq]
  rfl

theorem selectCell_aside (hall : field p 5 0 ≠ 63) (hself : m.cmu.nodeAddress.map Fin.val ≠ some (field p 5 0)) :
    selectCell p m = { m with cmu := { m.cmu.discarded with
      unit := if m.cmu.unit = .replying then .replying else .idle } } := by
  unfold selectCell
  rw [if_neg (show ¬selectAddress p = 63 from hall),
    if_neg (show ¬m.cmu.nodeAddress.map Fin.val = some (selectAddress p) from hself), discardAssembly_eq]
  rfl

theorem wordCell_idle (h : m.cmu.assembly = none) (p : Word) : wordCell p m = m := by
  unfold wordCell
  rw [h]

theorem wordCell_taken (h : m.cmu.assembly = some via) (p : Word) : wordCell p m =
    if m.cmu.words.length < 63 then { m with cmu := { m.cmu with words := m.cmu.words ++ [p] } }
    else { m with cmu := { m.cmu with overflow := true } } := by
  unfold wordCell
  rw [h]

/-! ### END -/

/-- The state in which the assembly of a message has ended (R159). -/
def ended (m : State) : State := { m with cmu := { m.cmu with assembly := none } }

/-- The command code of the record, 0 where it is empty. -/
def recordCode (m : State) : Nat := field (m.cmu.words.headD 0) 23 16

theorem endCell_taken (h : m.cmu.assembly = some via) : endCell m = completeMessage via (ended m) := by
  unfold endCell
  rw [h]
  rfl

theorem completeMessage_damaged (h : m.cmu.damaged = true) : completeMessage via m =
    answer via (recordCode m) (refuse .damaged
      { m with cmu := { m.cmu with damagedCount := min (m.cmu.damagedCount + 1) 65535 } }) := by
  unfold completeMessage recordCode
  dsimp only
  rw [if_pos h]
  cases m.cmu.words <;> rfl

theorem completeMessage_length (hdamaged : m.cmu.damaged = false) (h : m.cmu.overflow = true ∨ m.cmu.words = [] ∨
    field (m.cmu.words.headD 0) 5 0 ≠ m.cmu.words.tail.length) :
    completeMessage via m = answer via (recordCode m) (refuse .length m) := by
  unfold completeMessage recordCode
  dsimp only
  rw [if_neg (by simp [hdamaged])]
  cases hw : m.cmu.words with
  | nil => rfl
  | cons header args =>
    rw [hw] at h
    have hbad : m.cmu.overflow = true ∨ headerCount header ≠ args.length := h.imp id fun h => h.resolve_left (by simp)
    dsimp only
    rw [if_pos hbad]
    rfl

theorem completeMessage_whole {header : Word} {args : List Word} (hdamaged : m.cmu.damaged = false)
    (hoverflow : m.cmu.overflow = false) (hwords : m.cmu.words = header :: args)
    (hcount : field header 5 0 = args.length) :
    (commandOf (recordCode m) = none → completeMessage via m = answer via (recordCode m) (refuse .unknown m)) ∧
    ∀ c, commandOf (recordCode m) = some c → completeMessage via m = takeCommand via c args m := by
  have hgood : ¬(m.cmu.overflow = true ∨ headerCount header ≠ args.length) := by
    simp [hoverflow, headerCount, hcount]
  have hcode : recordCode m = headerCode header := by rw [recordCode, hwords]; rfl
  rw [hcode]
  refine ⟨fun hnone => ?_, fun c hc => ?_⟩
  · simp [completeMessage, hdamaged, hwords, hgood, hnone]
  · simp [completeMessage, hdamaged, hwords, hgood, hc]

theorem commandOf_unknown {code : Nat} (h : code ∉ [0x01, 0x02, 0x03, 0x10, 0x11, 0x12, 0x20, 0x21, 0x22, 0x23, 0x30,
    0x40, 0x41, 0x50, 0x5A]) : commandOf code = none := by
  unfold commandOf
  split <;> simp_all

/-- A whole message of a known command is taken as its row takes it: of the record alone the two may differ, in the
header's bits that R207 does not use. -/
theorem exec_row_whole {c : Command} {header : Word} {args : List Word} (hready : Ready via m) (hl : args.length ≤ 62)
    (hdamaged : m.cmu.damaged = false) (hoverflow : m.cmu.overflow = false) (hwords : m.cmu.words = header :: args)
    (hcount : field header 5 0 = args.length) (hcode : c.code = recordCode m) :
    exec (c.row via args) m = .next ((completeMessage via m).withWords (headerWord c args :: args)) := by
  have hdelivered : delivered c args m = m.recorded (delivered c args m).cmu := by
    simp only [delivered, withRecord, State.recorded, hdamaged, hoverflow]
  have hunit : m.cmu.unit = .replying ↔ (delivered c args m).cmu.unit = .replying := by
    show _ ↔ (if m.cmu.unit = .replying then UnitState.replying else .assembling) = .replying
    split <;> simp [*]
  obtain ⟨_, _, hnode⟩ := id hready
  have hjudged := takeCommand_recorded (delivered c args m).cmu args (s := m) rfl (fun e => (hnode e).1) hunit c
  rw [← hdelivered] at hjudged
  obtain ⟨_, hknown⟩ := completeMessage_whole (via := via) hdamaged hoverflow hwords hcount
  rw [hknown c (hcode ▸ commandOf_code c), exec_row, takeMessage_eq via c args m hready hl, hjudged]
  rfl

/-! ### A refusal -/

/-- What a refused message leaves: nothing of a broadcast, and of an addressed message the two cells of its reply. -/
theorem answer_refused (status : Status) (code : Nat) (u : State) :
    answer .broadcast code (refuse status u) = { u with cmu := { u.cmu with
      unit := if u.cmu.unit = .replying then .replying else .idle } } ∧
    ∀ a, u.cmu.nodeAddress = some a → answer .addressed code (refuse status u) = { u with cmu := { u.cmu with
      unit := .replying, replyBuffer := [⟨4, replyHeader u a status code⟩, ⟨5, 0⟩]
      headerHeld := true, overrun := false } } := by
  refine ⟨rfl, fun a ha => ?_⟩
  show formReply code status [] u = _
  unfold formReply
  rw [ha]
  rfl

end Sys2Proof.Machine
end

section
/-! The cell of a frame that opens a window in LOCKED, in the middle of the window's deliveries (R145, R146, R155,
R166, R191). -/

namespace Sys2Proof.Machine

variable {s t u w : State} {time : Nat} {j : Taken}

/-! ### The mark and the shed record -/

/-- A state that differs from another in what a mark and the shed record reach. -/
def SameButNotes (t u : State) : Prop := ∃ shedNote shedLast shedWorst shedWindows scc triggerPending, t = { u with
  cmu := { u.cmu with shedNote := shedNote }
  dmc := { u.dmc with shedLast := shedLast, shedWorst := shedWorst, shedWindows := shedWindows }
  scc := scc, svu := { u.svu with triggerPending := triggerPending } }

theorem SameButNotes.refl (u : State) : SameButNotes u u := ⟨_, _, _, _, _, _, rfl⟩

theorem SameButNotes.trans (h : SameButNotes t u) (h' : SameButNotes u w) : SameButNotes t w := by
  obtain ⟨_, _, _, _, _, _, rfl⟩ := h'
  obtain ⟨_, _, _, _, _, _, rfl⟩ := h
  exact ⟨_, _, _, _, _, _, rfl⟩

theorem sameButNotes_recordShed (late : Bool) (shed : Nat) (u : State) :
    SameButNotes (if late then recordShed shed u else u) u := by
  cases late
  · exact .refl u
  · exact ⟨_, _, _, _, _, _, rfl⟩

theorem sameButNotes_takeMark (late : Bool) (u : State) : SameButNotes (if late then takeMark u else u) u := by
  cases late
  · exact .refl u
  · obtain ⟨_, _, h⟩ := takeMark_frame (s := u)
    exact ⟨_, _, _, _, _, _, h⟩

theorem recordShed_scene (late : Bool) (shed : Nat) (u : State) :
    (if late then recordShed shed u else u).scc = u.scc ∧ (if late then recordShed shed u else u).svu = u.svu := by
  cases late <;> exact ⟨rfl, rfl⟩

/-- A frame that is handed on: its cell meets a state that has perhaps had the mark and the shed record, and what is
left of these comes after it. -/
theorem deliver_cell {o : Opening} {f : Frame} (h : handedFrame w.rrx.lock o = some f) (shed d : Nat) :
    ∃ m, SameButNotes m w ∧ SameButNotes (deliver o shed d w) (takeCell f.kind f.payload m) ∧
      (f.mark = false → (deliver o shed d w).scc = (takeCell f.kind f.payload m).scc ∧
        (deliver o shed d w).svu = (takeCell f.kind f.payload m).svu) := by
  obtain ⟨markLate, shedLate, hmark, _, e⟩ := deliver_handed h shed d
  have hbefore := sameButNotes_takeMark (f.mark && !markLate) w
  have hshed := sameButNotes_recordShed (!shedLate) shed (if f.mark && !markLate then takeMark w else w)
  have hflip (a b : State) : (if (!shedLate) = true then a else b) = if shedLate then b else a := by
    cases shedLate <;> rfl
  rw [hflip] at hshed
  refine ⟨_, hshed.trans hbefore, ?_, fun hno => ?_⟩
  · rw [e]
    exact (sameButNotes_recordShed _ _ _).trans (sameButNotes_takeMark _ _)
  · have hearly : markLate = false := by
      cases hm : markLate
      · rfl
      · exact absurd (hmark hm) (by simp [hno])
    rw [e]
    subst hearly
    exact recordShed_scene _ _ _

/-! ### The loader's idle timer after a cell -/

/-- The idle timer of an OPEN load is at 0 and has not expired. -/
def Rewound (l : Tld) : Prop := l.isOpen = true → l.idle = some 0 ∧ 1 ≤ l.timeout

theorem Rewound.not_due {l : Tld} (h : Rewound l) : idleDue l = false := by
  unfold idleDue
  split
  · next n hopen hidle =>
    obtain ⟨hzero, htimeout⟩ := h hopen
    cases hidle.symm.trans hzero
    simp
    omega
  · rfl
  · rfl

theorem rewound_loadWords (ws : List Word) (r : State × Nat) (h : Rewound r.1.tld) :
    Rewound (ws.foldl loadWord r).1.tld := by
  induction ws generalizing r with
  | nil => exact h
  | cons w ws ih =>
    refine ih _ ?_
    unfold loadWord
    dsimp only
    split
    · split
      · exact h
      · show Rewound (completeEntry _ r.1).tld
        rw [completeEntry_tld]
        split
        · exact fun hopen => by cases hopen
        · exact h
    · exact h

/-- No command leaves an expiry of the idle timer due where none was. -/
theorem Acts.not_due (h : Acts s t) (hdue : idleDue s.tld = false)
    (htimeout : s.tld.isOpen = true → 1 ≤ s.tld.timeout) : idleDue t.tld = false := by
  cases h with
  | opened table direction start count timeout hclosed hlock hne hcount hrun =>
    exact Rewound.not_due (fun _ => ⟨rfl, Nat.one_le_iff_ne_zero.2 hne⟩)
  | loaded args hopen => exact (rewound_loadWords args _ fun _ => ⟨rfl, htimeout hopen⟩).not_due
  | closed hopen => exact idleDue_closed s.tld
  | due hopen hd hscene =>
    obtain ⟨_, _, _, _, e⟩ := settleSwap_frame { s with scc := { s.scc with shadowLocked := true, swapDue := true } }
    rw [e]
    exact hdue
  | _ => exact hdue

theorem takeCell_not_due (kind : BitVec 4) (p : Word) (hdue : idleDue s.tld = false)
    (htimeout : s.tld.isOpen = true → 1 ≤ s.tld.timeout) : idleDue (takeCell kind p s).tld = false := by
  rcases takeCell_cases kind p s with ⟨_, e⟩ | ⟨_, e⟩ | ⟨_, e⟩ | e <;> rw [e]
  · obtain ⟨_, e⟩ := selectCell_frame s p
    rwa [e]
  · obtain ⟨_, e⟩ := wordCell_frame s p
    rwa [e]
  · unfold endCell
    split
    · exact hdue
    · next via _ =>
      obtain ⟨k, e | ⟨c, args, _, e⟩⟩ := completeMessage_frame { s with cmu := { s.cmu with assembly := none } } via <;>
        rw [e]
      · exact hdue
      · exact (effect_acts { s with cmu := { s.cmu with assembly := none } } args c).not_due hdue htimeout
  · exact hdue

end Sys2Proof.Machine
end

section
/-! The cells of good frames (R145, R155 to R169). -/

namespace Sys2Proof.Machine

variable {s t u : State} {time : Nat} {j : Taken} {f : Frame}

/-- A state that differs from another in what the window's deliveries other than a cell reach. -/
def SameButDeliveries (t u : State) : Prop := t = { u with
  cmu := { u.cmu with fault := t.cmu.fault, laterCount := t.cmu.laterCount, shedNote := t.cmu.shedNote }
  dmc := { u.dmc with
    shedLast := t.dmc.shedLast, shedWorst := t.dmc.shedWorst, shedWindows := t.dmc.shedWindows }
  scc := t.scc, svu := t.svu, tld := t.tld, draws := t.draws }

theorem SameButNotes.settled (h : SameButNotes t u) : SameButDeliveries (settleExpiry t) u ∧
    (settleExpiry t).scc = t.scc ∧ (settleExpiry t).svu = t.svu := by
  obtain ⟨_, _, _, _, _, _, rfl⟩ := h
  rcases settleExpiry_cases _ with ⟨_, e⟩ | ⟨_, e⟩
  · obtain ⟨_, _, hframe⟩ := expireLoad_frame (s := _) _
    rw [e, hframe]
    exact ⟨rfl, rfl, rfl⟩
  · rw [e]
    exact ⟨rfl, rfl, rfl⟩

theorem SameButNotes.tld (h : SameButNotes t u) : t.tld = u.tld := by
  obtain ⟨_, _, _, _, _, _, rfl⟩ := h
  rfl

/-- An idle timer that does not reach its limit counts the window start. -/
theorem windowStaged_counts {o : Opening} (h : idleReaches s.tld = false) (d : Nat) :
    (windowStaged o d (windowStart time j s)).tld = s.tld.countIdle := by
  obtain ⟨_, _, _, hexact⟩ := windowStart_cmu time j s
  obtain ⟨_, hstart⟩ := hexact h
  obtain ⟨_, _, hframe⟩ := sendFrame_frame (windowStart time j s) o
  have hsent : (sendFrame o (windowStart time j s)).tld = s.tld := by rw [hframe, hstart]
  rw [windowStaged_tld, idleStart_counts (by rwa [hsent]), hsent]

/-- A window that opens in LOCKED with a good frame: the frame's cell, and what is delivered around it. -/
theorem openWindow_cell (hlock : j.rrx.lock = .locked) (f : Frame) (time : Nat) (s : State) :
    ∃ m, SameButNotes m (windowStaged (.good f) s.draws (windowStart time j s)) ∧
      SameButDeliveries (openWindow time j (.good f) s) (takeCell f.kind f.payload m) ∧
      (f.mark = false → (openWindow time j (.good f) s).scc = (takeCell f.kind f.payload m).scc ∧
        (openWindow time j (.good f) s).svu = (takeCell f.kind f.payload m).svu) ∧
      (idleReaches s.tld = false → (s.tld.isOpen = true → 1 ≤ s.tld.timeout) →
        (openWindow time j (.good f) s).tld = (takeCell f.kind f.payload m).tld) := by
  have hcounts := windowStaged_counts (s := s) (time := time) (j := j) (o := .good f) (d := s.draws)
  have hlocked : (windowStaged (.good f) s.draws (windowStart time j s)).rrx.lock = .locked := by
    rw [windowStaged_rrx, windowStart_lock, hlock]
  rw [openWindow_eq]
  generalize windowStaged (.good f) s.draws (windowStart time j s) = w at *
  obtain ⟨m, hm, hcell, hscene⟩ := deliver_cell ((handedFrame_iff _ _ f).2 ⟨hlocked, rfl⟩)
    (runTaps (earlyStages (windowStart time j s))).shed s.draws
  generalize deliver (.good f) (runTaps (earlyStages (windowStart time j s))).shed s.draws w = t at *
  obtain ⟨hsettled, hscc, hsvu⟩ := hcell.settled
  refine ⟨m, hm, hsettled, fun hno => ?_, fun hreach htimeout => ?_⟩
  · obtain ⟨h, h'⟩ := hscene hno
    exact ⟨hscc.trans h, hsvu.trans h'⟩
  · have hmtld : m.tld = s.tld.countIdle := hm.tld.trans (hcounts hreach)
    have hdue : idleDue m.tld = false := by rw [hmtld, idleDue_countIdle, hreach]
    have hlong : m.tld.isOpen = true → 1 ≤ m.tld.timeout := by
      rw [hmtld]
      rcases countIdle_cases s.tld with ⟨_, _, _, e⟩ | e <;> rw [e] <;> exact htimeout
    rw [settleExpiry_of_not_due (by rw [hcell.tld]; exact takeCell_not_due _ _ hdue hlong), hcell.tld]

/-- A good frame, not spurious, that leaves the receiver LOCKED opens its window there. -/
theorem exec_locking (hrows : rowsExist s = true) (hgood : frameGood f = true) (hlate : s.rrx.lastStart + 461 ≤ time)
    (h : s.rrx.lock = .locked ∨ s.rrx.lock = .flywheel ∨ (s.rrx.lock = .acquiring ∧
      f.number = s.rrx.prevNumber + 1 ∧ s.rrx.ringset.acquire ≤ min (s.rrx.goodCount + 1) 255)) :
    ∃ r : Rrx, r.lock = .locked ∧ exec (.frameArrival time f) s =
      .next (openWindow time (Taken.opens r (.good f)) (.good f) (endWindow s)) := by
  rcases or_assoc.2 h with hfollow | ⟨hlock, hnumber, hdone⟩
  · exact ⟨_, rfl, exec_followed hrows hfollow hgood hlate⟩
  · have hcounted : (s.rrx.takeCounted f).lock = .locked := congrArg Rrx.lock (if_pos hdone)
    refine ⟨_, hcounted, ?_⟩
    rw [exec_frameArrival, takeAcquiring_counted hlock hgood hlate hnumber]
    exact ringOutcome_opens rfl hrows

/-- The state that the cell of a frame meets, told from the state before the event (R145, R166). -/
theorem staged_cell {m : State} {r : Rrx} (hlock : r.lock = .locked)
    (hm : SameButNotes m (windowStaged (.good f) (endWindow s).draws
      (windowStart time (Taken.opens r (.good f)) (endWindow s)))) :
    m.cmu = { s.cmu.offered f.kind with
      restartPending := false, fault := m.cmu.fault, laterCount := m.cmu.laterCount, shedNote := m.cmu.shedNote } ∧
    m.rrx.lock = .locked ∧ m.inWindow = true ∧ m.rtx.number = f.number ∧
    m.tables = { s.tables with results := m.tables.results } := by
  have hreach : cellsReach r.lock = true := by rw [hlock]; rfl
  obtain ⟨a, b, hcmu⟩ := windowStaged_cmu_opened (s := s) (time := time) (j := Taken.opens r (.good f)) hreach rfl rfl f
    (endWindow s).draws
  have hlocked : (windowStaged (.good f) (endWindow s).draws
      (windowStart time (Taken.opens r (.good f)) (endWindow s))).rrx.lock = .locked := by
    rw [windowStaged_rrx, windowStart_lock]
    exact hlock
  have hnumber : (windowStaged (.good f) (endWindow s).draws
      (windowStart time (Taken.opens r (.good f)) (endWindow s))).rtx.number = f.number := by
    rw [windowStaged_rtx, sendFrame_good (by rw [windowStart_lock]; exact hreach)]
    rfl
  have htables := (windowStaged_tables (.good f) (endWindow s).draws
    (windowStart time (Taken.opens r (.good f)) (endWindow s))).trans (windowStart_tables _ _ _)
  have hopen := windowStaged_inWindow (.good f) (endWindow s).draws
    (windowStart time (Taken.opens r (.good f)) (endWindow s))
  generalize windowStaged (.good f) (endWindow s).draws
    (windowStart time (Taken.opens r (.good f)) (endWindow s)) = w at *
  rw [endWindow_tables] at htables
  obtain ⟨_, _, _, _, _, _, rfl⟩ := hm
  refine ⟨?_, hlocked, hopen, hnumber, ?_⟩
  · dsimp only
    rw [hcmu]
    rfl
  · dsimp only
    rw [htables]

/-- The refusal of a completed message, to whomever it was sent. -/
theorem takeCell_refused {via : Addressee} {m u : State} {p : Word} {status : Status} {code : Nat}
    (h : takeCell 3 p m = answer via code (refuse status u)) (hunit : u.cmu.unit = m.cmu.unit)
    (haddress : u.cmu.nodeAddress = m.cmu.nodeAddress) :
    (via = .broadcast → takeCell 3 p m = { u with cmu := { u.cmu with
      unit := if m.cmu.unit = .replying then .replying else .idle } }) ∧
    (∀ a, via = .addressed → m.cmu.nodeAddress = some a → takeCell 3 p m = { u with cmu := { u.cmu with
      unit := .replying, replyBuffer := [⟨4, replyHeader u a status code⟩, ⟨5, 0⟩]
      headerHeld := true, overrun := false } }) := by
  obtain ⟨hbroadcast, haddressed⟩ := answer_refused status code u
  rw [h, ← hunit, ← haddress]
  refine ⟨fun e => ?_, fun a e ha => ?_⟩
  · rw [e]
    exact hbroadcast
  · rw [e]
    exact haddressed a ha

/-- Settles O22: the cell of a followed frame meets the Command Unit after the window start; SELECT, WORD and END, and
the judgement of a whole message. -/
theorem cellsAssembleTheMessage : Obligations.CellsAssembleTheMessage := by
  refine ⟨fun time f s hrows hlock hgood hlate => ?frame, fun p m => ?cells, fun p via m hvia => ?message⟩
  case frame =>
    obtain ⟨r, hlocked, hexec⟩ := exec_locking hrows hgood hlate hlock
    obtain ⟨m, hm, hcell, hscene, hidle⟩ := openWindow_cell (j := Taken.opens r (.good f)) hlocked f time (endWindow s)
    obtain ⟨hcmu, hrest⟩ := staged_cell hlocked hm
    rw [endWindow_tld] at hidle
    generalize openWindow time (Taken.opens r (.good f)) (.good f) (endWindow s) = t at *
    obtain ⟨hmlock, hopen, hnumber, htables⟩ := hrest
    exact ⟨m, t, hexec, hcmu, hmlock, hopen, hnumber, htables, hcell, hscene, hidle⟩
  case cells =>
    refine ⟨selectCell_broadcast, fun a ha h => ⟨selectCell_addressed ha h, selectCell_dropped ha h⟩, selectCell_aside,
      fun hnone => ⟨wordCell_idle hnone p, endCell_idle hnone⟩, fun hsome => ?_, fun kind h1 h2 h3 => ?_⟩
    · obtain ⟨via, hvia⟩ := Option.isSome_iff_exists.1 hsome
      rw [takeCell_word, wordCell_taken hvia]
      exact ⟨fun h => if_pos h, fun h => if_neg (Nat.not_lt.2 h)⟩
    · exact (if_neg h1).trans ((if_neg h2).trans (if_neg h3))
  case message =>
    have hend : takeCell 3 p m = completeMessage via (ended m) := endCell_taken hvia
    refine ⟨fun hdamaged => ?_, fun hdamaged => ⟨fun hlength => ?_, fun header args hoverflow hwords hcount =>
      ⟨fun hcode => ?_, fun c hcode hl hready => ?_⟩⟩⟩
    · exact takeCell_refused (hend.trans (completeMessage_damaged hdamaged)) rfl rfl
    · exact takeCell_refused (hend.trans (completeMessage_length hdamaged hlength)) rfl rfl
    · obtain ⟨hunknown, _⟩ := completeMessage_whole (m := ended m) (via := via) hdamaged hoverflow hwords hcount
      exact takeCell_refused (hend.trans (hunknown (commandOf_unknown hcode))) rfl rfl
    · have hrow := exec_row_whole (m := ended m) hready hl hdamaged hoverflow hwords hcount hcode
      rw [← hend] at hrow
      exact hrow

end Sys2Proof.Machine
end
